-- ==== Sys2Proof/Word.lean ====
section
/-! DEFINITION. The widths of the machine: bytes, words, 21-bit addresses and register numbers
(00_scope.md R6, R8, R12; 10_state.md R20, R21). -/

namespace Sys2Proof

/-- An 8-bit byte (00_scope.md R12). -/
abbrev Byte := BitVec 8

/-- A 16-bit word (00_scope.md R12). -/
abbrev Word := BitVec 16

/-- A 21-bit byte address (00_scope.md R6). -/
abbrev Addr := BitVec 21

/-- The number of a general register, 0 to 15 (10_state.md R21). -/
abbrev Reg := Fin 16

/-- R13 under its assembler name (10_state.md R21). -/
abbrev Reg.era : Reg := 13

/-- R14 under its assembler name (10_state.md R21). -/
abbrev Reg.ra : Reg := 14

/-- R15 under its assembler name (10_state.md R21). -/
abbrev Reg.sp : Reg := 15

end Sys2Proof
end

