-- ==== Sys2Proof/Syntax.lean ====
section
/-! DEFINITION. The instruction set as data: one constructor of Instr per row of
spec/opcode_table.json, in the table's order (30_encoding.md R90), the two rows (d4 = 0; d4 = 1 and
d0 = 0) of each LOADi and STORi disp5 form being one format (R101 (a)) and one constructor: Lean's
compiler takes at most 244 constructors. Operands stand in the manual's
order, source first and destination last (30_encoding.md R117). -/

namespace Sys2Proof

/-- The restricted register set R0, R1, R8, R9 of the 2-bit field (b3, b0) (10_state.md R24). -/
inductive Restricted where
  | r0 | r1 | r8 | r9
deriving DecidableEq, Repr

/-- The fourteen conditions of Bcond, Jcond and Scond (30_encoding.md R109). -/
inductive Cond where
  | eq | ne | cs | cc | hi | ls | gt | le | fs | fc | lo | hs | lt | ge
deriving DecidableEq, Repr

/-- One constructor per row of the opcode table (disp5 forms: per pair of rows). Displacements, immediates and absolute addresses
are the encoded fields of the row; `rcnt` is count - 1 (30_encoding.md R111); a register pair is
named by its lower register (10_state.md R25). -/
inductive Instr where
  /- ADDB: R141 -/
  | addbReg (src dest : Reg)
  | addbImm5 (imm : BitVec 5) (dest : Reg)
  | addbImm16 (imm : BitVec 16) (dest : Reg)
  /- ADDW: R141 -/
  | addwReg (src dest : Reg)
  | addwImm5 (imm : BitVec 5) (dest : Reg)
  | addwImm16 (imm : BitVec 16) (dest : Reg)
  /- ADDUB: R141 -/
  | addubReg (src dest : Reg)
  | addubImm5 (imm : BitVec 5) (dest : Reg)
  | addubImm16 (imm : BitVec 16) (dest : Reg)
  /- ADDUW: R141 -/
  | adduwReg (src dest : Reg)
  | adduwImm5 (imm : BitVec 5) (dest : Reg)
  | adduwImm16 (imm : BitVec 16) (dest : Reg)
  /- MULB: R145 -/
  | mulbReg (src dest : Reg)
  | mulbImm5 (imm : BitVec 5) (dest : Reg)
  | mulbImm16 (imm : BitVec 16) (dest : Reg)
  /- MULW: R145 -/
  | mulwReg (src dest : Reg)
  | mulwImm5 (imm : BitVec 5) (dest : Reg)
  | mulwImm16 (imm : BitVec 16) (dest : Reg)
  /- ASHUB: R171 -/
  | ashubReg (count dest : Reg)
  | ashubImm5 (count : BitVec 5) (dest : Reg)
  | ashubImm16 (count : BitVec 16) (dest : Reg)
  /- ASHUW: R171 -/
  | ashuwReg (count dest : Reg)
  | ashuwImm5 (count : BitVec 5) (dest : Reg)
  | ashuwImm16 (count : BitVec 16) (dest : Reg)
  /- LSHB: R172 -/
  | lshbReg (count dest : Reg)
  | lshbImm5 (count : BitVec 5) (dest : Reg)
  | lshbImm16 (count : BitVec 16) (dest : Reg)
  /- LSHW: R172 -/
  | lshwReg (count dest : Reg)
  | lshwImm5 (count : BitVec 5) (dest : Reg)
  | lshwImm16 (count : BitVec 16) (dest : Reg)
  /- XORB: R168 -/
  | xorbReg (src dest : Reg)
  | xorbImm5 (imm : BitVec 5) (dest : Reg)
  | xorbImm16 (imm : BitVec 16) (dest : Reg)
  /- XORW: R168 -/
  | xorwReg (src dest : Reg)
  | xorwImm5 (imm : BitVec 5) (dest : Reg)
  | xorwImm16 (imm : BitVec 16) (dest : Reg)
  /- CMPB: R160 -/
  | cmpbReg (src1 src2 : Reg)
  | cmpbImm5 (imm : BitVec 5) (src2 : Reg)
  | cmpbImm16 (imm : BitVec 16) (src2 : Reg)
  /- CMPW: R160 -/
  | cmpwReg (src1 src2 : Reg)
  | cmpwImm5 (imm : BitVec 5) (src2 : Reg)
  | cmpwImm16 (imm : BitVec 16) (src2 : Reg)
  /- ANDB: R166 -/
  | andbReg (src dest : Reg)
  | andbImm5 (imm : BitVec 5) (dest : Reg)
  | andbImm16 (imm : BitVec 16) (dest : Reg)
  /- ANDW: R166 -/
  | andwReg (src dest : Reg)
  | andwImm5 (imm : BitVec 5) (dest : Reg)
  | andwImm16 (imm : BitVec 16) (dest : Reg)
  /- ADDCB: R142 -/
  | addcbReg (src dest : Reg)
  | addcbImm5 (imm : BitVec 5) (dest : Reg)
  | addcbImm16 (imm : BitVec 16) (dest : Reg)
  /- ADDCW: R142 -/
  | addcwReg (src dest : Reg)
  | addcwImm5 (imm : BitVec 5) (dest : Reg)
  | addcwImm16 (imm : BitVec 16) (dest : Reg)
  /- MOVB: R130 -/
  | movbReg (src dest : Reg)
  | movbImm5 (imm : BitVec 5) (dest : Reg)
  | movbImm16 (imm : BitVec 16) (dest : Reg)
  /- MOVW: R131 -/
  | movwReg (src dest : Reg)
  | movwImm5 (imm : BitVec 5) (dest : Reg)
  | movwImm16 (imm : BitVec 16) (dest : Reg)
  /- SUBCB: R144 -/
  | subcbReg (src dest : Reg)
  | subcbImm5 (imm : BitVec 5) (dest : Reg)
  | subcbImm16 (imm : BitVec 16) (dest : Reg)
  /- SUBCW: R144 -/
  | subcwReg (src dest : Reg)
  | subcwImm5 (imm : BitVec 5) (dest : Reg)
  | subcwImm16 (imm : BitVec 16) (dest : Reg)
  /- ORB: R167 -/
  | orbReg (src dest : Reg)
  | orbImm5 (imm : BitVec 5) (dest : Reg)
  | orbImm16 (imm : BitVec 16) (dest : Reg)
  /- ORW: R167 -/
  | orwReg (src dest : Reg)
  | orwImm5 (imm : BitVec 5) (dest : Reg)
  | orwImm16 (imm : BitVec 16) (dest : Reg)
  /- SUBB: R143 -/
  | subbReg (src dest : Reg)
  | subbImm5 (imm : BitVec 5) (dest : Reg)
  | subbImm16 (imm : BitVec 16) (dest : Reg)
  /- SUBW: R143 -/
  | subwReg (src dest : Reg)
  | subwImm5 (imm : BitVec 5) (dest : Reg)
  | subwImm16 (imm : BitVec 16) (dest : Reg)
  /- TBIT: R183 -/
  | tbitReg (offset src : Reg)
  | tbitImm5 (pos : BitVec 5) (src : Reg)
  | tbitImm16 (pos : BitVec 16) (src : Reg)
  /- NOP: R240 -/
  | nop
  /- BEQ0B: R162 -/
  | beq0b (src : Restricted) (disp : BitVec 5)
  /- BEQ0W: R162 -/
  | beq0w (src : Restricted) (disp : BitVec 5)
  /- BEQ1B: R164 -/
  | beq1b (src : Restricted) (disp : BitVec 5)
  /- BEQ1W: R164 -/
  | beq1w (src : Restricted) (disp : BitVec 5)
  /- BNE0B: R163 -/
  | bne0b (src : Restricted) (disp : BitVec 5)
  /- BNE0W: R163 -/
  | bne0w (src : Restricted) (disp : BitVec 5)
  /- BNE1B: R165 -/
  | bne1b (src : Restricted) (disp : BitVec 5)
  /- BNE1W: R165 -/
  | bne1w (src : Restricted) (disp : BitVec 5)
  /- MOVD: R132 -/
  | movd (imm : BitVec 21) (dest : Reg)
  /- MULSB: R146 -/
  | mulsb (src dest : Reg)
  /- MULSW: R151 -/
  | mulsw (src dest : Reg)
  /- MULUW: R152 -/
  | muluw (src : Restricted) (dest : Reg)
  /- MOVXB: R133 -/
  | movxb (src dest : Reg)
  /- MOVZB: R134 -/
  | movzb (src dest : Reg)
  /- PUSH: R206 -/
  | push (rcnt : BitVec 2) (src : Reg)
  /- POP: R207 -/
  | pop (rcnt : BitVec 2) (dest : Reg)
  /- POPRET: R208 -/
  | popretSmall (rcnt : BitVec 2) (dest : Reg)
  | popretLarge (rcnt : BitVec 2) (dest : Reg)
  /- SEQ: R169 -/
  | seq (dest : Reg)
  /- SNE: R169 -/
  | sne (dest : Reg)
  /- SCS: R169 -/
  | scs (dest : Reg)
  /- SCC: R169 -/
  | scc (dest : Reg)
  /- SHI: R169 -/
  | shi (dest : Reg)
  /- SLS: R169 -/
  | sls (dest : Reg)
  /- SGT: R169 -/
  | sgt (dest : Reg)
  /- SLE: R169 -/
  | sle (dest : Reg)
  /- SFS: R169 -/
  | sfs (dest : Reg)
  /- SFC: R169 -/
  | sfc (dest : Reg)
  /- SLO: R169 -/
  | slo (dest : Reg)
  /- SHS: R169 -/
  | shs (dest : Reg)
  /- SLT: R169 -/
  | slt (dest : Reg)
  /- SGE: R169 -/
  | sge (dest : Reg)
  /- LPR: R220 -/
  | lpr (src : Reg) (rproc : BitVec 4)
  /- SPR: R221 -/
  | spr (rproc : BitVec 4) (dest : Reg)
  /- BEQ: R191 -/
  | beqDisp9 (disp : BitVec 9)
  | beqDisp17 (disp : BitVec 17)
  | beqDisp21 (disp : BitVec 21)
  /- BNE: R191 -/
  | bneDisp9 (disp : BitVec 9)
  | bneDisp17 (disp : BitVec 17)
  | bneDisp21 (disp : BitVec 21)
  /- BCS: R191 -/
  | bcsDisp9 (disp : BitVec 9)
  | bcsDisp17 (disp : BitVec 17)
  | bcsDisp21 (disp : BitVec 21)
  /- BCC: R191 -/
  | bccDisp9 (disp : BitVec 9)
  | bccDisp17 (disp : BitVec 17)
  | bccDisp21 (disp : BitVec 21)
  /- BHI: R191 -/
  | bhiDisp9 (disp : BitVec 9)
  | bhiDisp17 (disp : BitVec 17)
  | bhiDisp21 (disp : BitVec 21)
  /- BLS: R191 -/
  | blsDisp9 (disp : BitVec 9)
  | blsDisp17 (disp : BitVec 17)
  | blsDisp21 (disp : BitVec 21)
  /- BGT: R191 -/
  | bgtDisp9 (disp : BitVec 9)
  | bgtDisp17 (disp : BitVec 17)
  | bgtDisp21 (disp : BitVec 21)
  /- BLE: R191 -/
  | bleDisp9 (disp : BitVec 9)
  | bleDisp17 (disp : BitVec 17)
  | bleDisp21 (disp : BitVec 21)
  /- BFS: R191 -/
  | bfsDisp9 (disp : BitVec 9)
  | bfsDisp17 (disp : BitVec 17)
  | bfsDisp21 (disp : BitVec 21)
  /- BFC: R191 -/
  | bfcDisp9 (disp : BitVec 9)
  | bfcDisp17 (disp : BitVec 17)
  | bfcDisp21 (disp : BitVec 21)
  /- BLO: R191 -/
  | bloDisp9 (disp : BitVec 9)
  | bloDisp17 (disp : BitVec 17)
  | bloDisp21 (disp : BitVec 21)
  /- BHS: R191 -/
  | bhsDisp9 (disp : BitVec 9)
  | bhsDisp17 (disp : BitVec 17)
  | bhsDisp21 (disp : BitVec 21)
  /- BLT: R191 -/
  | bltDisp9 (disp : BitVec 9)
  | bltDisp17 (disp : BitVec 17)
  | bltDisp21 (disp : BitVec 21)
  /- BGE: R191 -/
  | bgeDisp9 (disp : BitVec 9)
  | bgeDisp17 (disp : BitVec 17)
  | bgeDisp21 (disp : BitVec 21)
  /- BR: R194 -/
  | brDisp9 (disp : BitVec 9)
  | brDisp17 (disp : BitVec 17)
  | brDisp21 (disp : BitVec 21)
  /- BAL: R195 -/
  | balSmall (link : Reg) (disp : BitVec 17)
  | balLarge (link : Reg) (disp : BitVec 21)
  /- JEQ: R198 -/
  | jeqSmall (target : Reg)
  | jeqLarge (target : Reg)
  /- JNE: R198 -/
  | jneSmall (target : Reg)
  | jneLarge (target : Reg)
  /- JCS: R198 -/
  | jcsSmall (target : Reg)
  | jcsLarge (target : Reg)
  /- JCC: R198 -/
  | jccSmall (target : Reg)
  | jccLarge (target : Reg)
  /- JHI: R198 -/
  | jhiSmall (target : Reg)
  | jhiLarge (target : Reg)
  /- JLS: R198 -/
  | jlsSmall (target : Reg)
  | jlsLarge (target : Reg)
  /- JGT: R198 -/
  | jgtSmall (target : Reg)
  | jgtLarge (target : Reg)
  /- JLE: R198 -/
  | jleSmall (target : Reg)
  | jleLarge (target : Reg)
  /- JFS: R198 -/
  | jfsSmall (target : Reg)
  | jfsLarge (target : Reg)
  /- JFC: R198 -/
  | jfcSmall (target : Reg)
  | jfcLarge (target : Reg)
  /- JLO: R198 -/
  | jloSmall (target : Reg)
  | jloLarge (target : Reg)
  /- JHS: R198 -/
  | jhsSmall (target : Reg)
  | jhsLarge (target : Reg)
  /- JLT: R198 -/
  | jltSmall (target : Reg)
  | jltLarge (target : Reg)
  /- JGE: R198 -/
  | jgeSmall (target : Reg)
  | jgeLarge (target : Reg)
  /- JUMP: R200 -/
  | jumpSmall (target : Reg)
  | jumpLarge (target : Reg)
  /- JAL: R201 -/
  | jalSmall (link target : Reg)
  | jalLarge (link target : Reg)
  /- RETX: R204 -/
  | retx
  /- EXCP: R203 -/
  | excp (vector : BitVec 4)
  /- DI: R238 -/
  | di
  /- EI: R239 -/
  | ei
  /- LOADM: R236 -/
  | loadm (rcnt : BitVec 2)
  /- STORM: R237 -/
  | storm (rcnt : BitVec 2)
  /- EIWAIT: R242 -/
  | eiwait
  /- WAIT: R241 -/
  | wait
  /- LOADB: R230 -/
  | loadbDisp5 (disp : BitVec 5) (base dest : Reg)
  | loadbDisp18 (disp : BitVec 18) (base dest : Reg)
  | loadbFar (disp : BitVec 18) (base dest : Reg)
  | loadbAbs (addr : BitVec 18) (dest : Reg)
  /- LOADW: R231 -/
  | loadwDisp5 (disp : BitVec 5) (base dest : Reg)
  | loadwDisp18 (disp : BitVec 18) (base dest : Reg)
  | loadwFar (disp : BitVec 18) (base dest : Reg)
  | loadwAbs (addr : BitVec 18) (dest : Reg)
  /- STORB: R232 -/
  | storbDisp5 (src : Reg) (disp : BitVec 5) (base : Reg)
  | storbDisp18 (src : Reg) (disp : BitVec 18) (base : Reg)
  | storbFar (src : Reg) (disp : BitVec 18) (base : Reg)
  | storbAbs (src : Reg) (addr : BitVec 18)
  /- STORW: R233 -/
  | storwDisp5 (src : Reg) (disp : BitVec 5) (base : Reg)
  | storwDisp18 (src : Reg) (disp : BitVec 18) (base : Reg)
  | storwFar (src : Reg) (disp : BitVec 18) (base : Reg)
  | storwAbs (src : Reg) (addr : BitVec 18)
  /- CBITB: R186 -/
  | cbitbBase (pos : BitVec 4) (base : Restricted)
  | cbitbDisp16 (pos : BitVec 4) (disp : BitVec 16) (base : Restricted)
  | cbitbAbs (pos : BitVec 4) (addr : BitVec 18)
  /- CBITW: R186 -/
  | cbitwBase (pos : BitVec 4) (base : Restricted)
  | cbitwDisp16 (pos : BitVec 4) (disp : BitVec 16) (base : Restricted)
  | cbitwAbs (pos : BitVec 4) (addr : BitVec 18)
  /- SBITB: R185 -/
  | sbitbBase (pos : BitVec 4) (base : Restricted)
  | sbitbDisp16 (pos : BitVec 4) (disp : BitVec 16) (base : Restricted)
  | sbitbAbs (pos : BitVec 4) (addr : BitVec 18)
  /- SBITW: R185 -/
  | sbitwBase (pos : BitVec 4) (base : Restricted)
  | sbitwDisp16 (pos : BitVec 4) (disp : BitVec 16) (base : Restricted)
  | sbitwAbs (pos : BitVec 4) (addr : BitVec 18)
  /- TBITB: R184 -/
  | tbitbBase (pos : BitVec 4) (base : Restricted)
  | tbitbDisp16 (pos : BitVec 4) (disp : BitVec 16) (base : Restricted)
  | tbitbAbs (pos : BitVec 4) (addr : BitVec 18)
  /- TBITW: R184 -/
  | tbitwBase (pos : BitVec 4) (base : Restricted)
  | tbitwDisp16 (pos : BitVec 4) (disp : BitVec 16) (base : Restricted)
  | tbitwAbs (pos : BitVec 4) (addr : BitVec 18)
  /- STORB: R234 -/
  | storbImmBase (imm : BitVec 4) (base : Restricted)
  | storbImmDisp16 (imm : BitVec 4) (disp : BitVec 16) (base : Restricted)
  | storbImmAbs (imm : BitVec 4) (addr : BitVec 18)
  /- STORW: R235 -/
  | storwImmBase (imm : BitVec 4) (base : Restricted)
  | storwImmDisp16 (imm : BitVec 4) (disp : BitVec 16) (base : Restricted)
  | storwImmAbs (imm : BitVec 4) (addr : BitVec 18)
deriving DecidableEq, Repr

end Sys2Proof
end

