-- ==== Sys2Proof/WellFormed.lean ====
section
/-! DEFINITION. Which operand values an encoding can hold. Every check is one the encoding imposes:
the escape pattern of the short immediate (30_encoding.md R95), the NOP word (R112), the implied or
required zero of a displacement's bit 0 (R98, R103, R105), the split of the 5-bit displacement (R101)
and the base field of the far form (R101). -/

namespace Sys2Proof

/-- The short immediate that is not the escape 10001 of the medium form (30_encoding.md R95). -/
def imm5Ok (imm : BitVec 5) : Bool := imm != 0b10001#5

/-- A displacement whose bit 0 is 0 (30_encoding.md R98, R102, R103, R105). -/
def evenDisp (d : BitVec n) : Bool := !d.getLsbD 0

/-- A 5-bit displacement 0 to 15 (the row with d4 = 0) or an even one 16 to 30 (the row with d4 = 1,
d0 = 0): d4 = d0 = 1 selects the 4-byte formats (30_encoding.md R101 (a)). -/
def disp5Ok (d : BitVec 5) : Bool := !(d.getLsbD 4 && d.getLsbD 0)

/-- A base pair of the far form: its field is not 1111, which is the absolute form
(30_encoding.md R101 (c), (d)). -/
def farBaseOk (base : Reg) : Bool := base != 15

/-- Whether some encoding of the row holds these operands. -/
def Instr.wf (i : Instr) : Bool :=
  match i with
  | .addbReg _ _ => true
  | .addbImm5 imm _ => imm5Ok imm
  | .addbImm16 _ _ => true
  | .addwReg _ _ => true
  | .addwImm5 imm _ => imm5Ok imm
  | .addwImm16 _ _ => true
  | .addubReg _ _ => true
  | .addubImm5 imm dest => imm5Ok imm && !(imm == 0 && dest == 0)
  | .addubImm16 _ _ => true
  | .adduwReg _ _ => true
  | .adduwImm5 imm _ => imm5Ok imm
  | .adduwImm16 _ _ => true
  | .mulbReg _ _ => true
  | .mulbImm5 imm _ => imm5Ok imm
  | .mulbImm16 _ _ => true
  | .mulwReg _ _ => true
  | .mulwImm5 imm _ => imm5Ok imm
  | .mulwImm16 _ _ => true
  | .ashubReg _ _ => true
  | .ashubImm5 count _ => imm5Ok count
  | .ashubImm16 _ _ => true
  | .ashuwReg _ _ => true
  | .ashuwImm5 count _ => imm5Ok count
  | .ashuwImm16 _ _ => true
  | .lshbReg _ _ => true
  | .lshbImm5 count _ => imm5Ok count
  | .lshbImm16 _ _ => true
  | .lshwReg _ _ => true
  | .lshwImm5 count _ => imm5Ok count
  | .lshwImm16 _ _ => true
  | .xorbReg _ _ => true
  | .xorbImm5 imm _ => imm5Ok imm
  | .xorbImm16 _ _ => true
  | .xorwReg _ _ => true
  | .xorwImm5 imm _ => imm5Ok imm
  | .xorwImm16 _ _ => true
  | .cmpbReg _ _ => true
  | .cmpbImm5 imm _ => imm5Ok imm
  | .cmpbImm16 _ _ => true
  | .cmpwReg _ _ => true
  | .cmpwImm5 imm _ => imm5Ok imm
  | .cmpwImm16 _ _ => true
  | .andbReg _ _ => true
  | .andbImm5 imm _ => imm5Ok imm
  | .andbImm16 _ _ => true
  | .andwReg _ _ => true
  | .andwImm5 imm _ => imm5Ok imm
  | .andwImm16 _ _ => true
  | .addcbReg _ _ => true
  | .addcbImm5 imm _ => imm5Ok imm
  | .addcbImm16 _ _ => true
  | .addcwReg _ _ => true
  | .addcwImm5 imm _ => imm5Ok imm
  | .addcwImm16 _ _ => true
  | .movbReg _ _ => true
  | .movbImm5 imm _ => imm5Ok imm
  | .movbImm16 _ _ => true
  | .movwReg _ _ => true
  | .movwImm5 imm _ => imm5Ok imm
  | .movwImm16 _ _ => true
  | .subcbReg _ _ => true
  | .subcbImm5 imm _ => imm5Ok imm
  | .subcbImm16 _ _ => true
  | .subcwReg _ _ => true
  | .subcwImm5 imm _ => imm5Ok imm
  | .subcwImm16 _ _ => true
  | .orbReg _ _ => true
  | .orbImm5 imm _ => imm5Ok imm
  | .orbImm16 _ _ => true
  | .orwReg _ _ => true
  | .orwImm5 imm _ => imm5Ok imm
  | .orwImm16 _ _ => true
  | .subbReg _ _ => true
  | .subbImm5 imm _ => imm5Ok imm
  | .subbImm16 _ _ => true
  | .subwReg _ _ => true
  | .subwImm5 imm _ => imm5Ok imm
  | .subwImm16 _ _ => true
  | .tbitReg _ _ => true
  | .tbitImm5 pos _ => imm5Ok pos
  | .tbitImm16 _ _ => true
  | .nop => true
  | .beq0b _ disp => evenDisp disp
  | .beq0w _ disp => evenDisp disp
  | .beq1b _ disp => evenDisp disp
  | .beq1w _ disp => evenDisp disp
  | .bne0b _ disp => evenDisp disp
  | .bne0w _ disp => evenDisp disp
  | .bne1b _ disp => evenDisp disp
  | .bne1w _ disp => evenDisp disp
  | .movd _ _ => true
  | .mulsb _ _ => true
  | .mulsw _ _ => true
  | .muluw _ _ => true
  | .movxb _ _ => true
  | .movzb _ _ => true
  | .push _ _ => true
  | .pop _ _ => true
  | .popretSmall _ _ => true
  | .popretLarge _ _ => true
  | .seq _ => true
  | .sne _ => true
  | .scs _ => true
  | .scc _ => true
  | .shi _ => true
  | .sls _ => true
  | .sgt _ => true
  | .sle _ => true
  | .sfs _ => true
  | .sfc _ => true
  | .slo _ => true
  | .shs _ => true
  | .slt _ => true
  | .sge _ => true
  | .lpr _ _ => true
  | .spr _ _ => true
  | .beqDisp9 disp => evenDisp disp
  | .beqDisp17 _ => true
  | .beqDisp21 disp => evenDisp disp
  | .bneDisp9 disp => evenDisp disp
  | .bneDisp17 _ => true
  | .bneDisp21 disp => evenDisp disp
  | .bcsDisp9 disp => evenDisp disp
  | .bcsDisp17 _ => true
  | .bcsDisp21 disp => evenDisp disp
  | .bccDisp9 disp => evenDisp disp
  | .bccDisp17 _ => true
  | .bccDisp21 disp => evenDisp disp
  | .bhiDisp9 disp => evenDisp disp
  | .bhiDisp17 _ => true
  | .bhiDisp21 disp => evenDisp disp
  | .blsDisp9 disp => evenDisp disp
  | .blsDisp17 _ => true
  | .blsDisp21 disp => evenDisp disp
  | .bgtDisp9 disp => evenDisp disp
  | .bgtDisp17 _ => true
  | .bgtDisp21 disp => evenDisp disp
  | .bleDisp9 disp => evenDisp disp
  | .bleDisp17 _ => true
  | .bleDisp21 disp => evenDisp disp
  | .bfsDisp9 disp => evenDisp disp
  | .bfsDisp17 _ => true
  | .bfsDisp21 disp => evenDisp disp
  | .bfcDisp9 disp => evenDisp disp
  | .bfcDisp17 _ => true
  | .bfcDisp21 disp => evenDisp disp
  | .bloDisp9 disp => evenDisp disp
  | .bloDisp17 _ => true
  | .bloDisp21 disp => evenDisp disp
  | .bhsDisp9 disp => evenDisp disp
  | .bhsDisp17 _ => true
  | .bhsDisp21 disp => evenDisp disp
  | .bltDisp9 disp => evenDisp disp
  | .bltDisp17 _ => true
  | .bltDisp21 disp => evenDisp disp
  | .bgeDisp9 disp => evenDisp disp
  | .bgeDisp17 _ => true
  | .bgeDisp21 disp => evenDisp disp
  | .brDisp9 disp => evenDisp disp
  | .brDisp17 _ => true
  | .brDisp21 disp => evenDisp disp
  | .balSmall _ _ => true
  | .balLarge _ disp => evenDisp disp
  | .jeqSmall _ => true
  | .jeqLarge _ => true
  | .jneSmall _ => true
  | .jneLarge _ => true
  | .jcsSmall _ => true
  | .jcsLarge _ => true
  | .jccSmall _ => true
  | .jccLarge _ => true
  | .jhiSmall _ => true
  | .jhiLarge _ => true
  | .jlsSmall _ => true
  | .jlsLarge _ => true
  | .jgtSmall _ => true
  | .jgtLarge _ => true
  | .jleSmall _ => true
  | .jleLarge _ => true
  | .jfsSmall _ => true
  | .jfsLarge _ => true
  | .jfcSmall _ => true
  | .jfcLarge _ => true
  | .jloSmall _ => true
  | .jloLarge _ => true
  | .jhsSmall _ => true
  | .jhsLarge _ => true
  | .jltSmall _ => true
  | .jltLarge _ => true
  | .jgeSmall _ => true
  | .jgeLarge _ => true
  | .jumpSmall _ => true
  | .jumpLarge _ => true
  | .jalSmall _ _ => true
  | .jalLarge _ _ => true
  | .retx => true
  | .excp _ => true
  | .di => true
  | .ei => true
  | .loadm _ => true
  | .storm _ => true
  | .eiwait => true
  | .wait => true
  | .loadbDisp5 disp _ _ => disp5Ok disp
  | .loadbDisp18 _ _ _ => true
  | .loadbFar _ base _ => farBaseOk base
  | .loadbAbs _ _ => true
  | .loadwDisp5 disp _ _ => disp5Ok disp
  | .loadwDisp18 _ _ _ => true
  | .loadwFar _ base _ => farBaseOk base
  | .loadwAbs _ _ => true
  | .storbDisp5 _ disp _ => disp5Ok disp
  | .storbDisp18 _ _ _ => true
  | .storbFar _ _ base => farBaseOk base
  | .storbAbs _ _ => true
  | .storwDisp5 _ disp _ => disp5Ok disp
  | .storwDisp18 _ _ _ => true
  | .storwFar _ _ base => farBaseOk base
  | .storwAbs _ _ => true
  | .cbitbBase _ _ => true
  | .cbitbDisp16 _ _ _ => true
  | .cbitbAbs _ _ => true
  | .cbitwBase _ _ => true
  | .cbitwDisp16 _ _ _ => true
  | .cbitwAbs _ _ => true
  | .sbitbBase _ _ => true
  | .sbitbDisp16 _ _ _ => true
  | .sbitbAbs _ _ => true
  | .sbitwBase _ _ => true
  | .sbitwDisp16 _ _ _ => true
  | .sbitwAbs _ _ => true
  | .tbitbBase _ _ => true
  | .tbitbDisp16 _ _ _ => true
  | .tbitbAbs _ _ => true
  | .tbitwBase _ _ => true
  | .tbitwDisp16 _ _ _ => true
  | .tbitwAbs _ _ => true
  | .storbImmBase _ _ => true
  | .storbImmDisp16 _ _ _ => true
  | .storbImmAbs _ _ => true
  | .storwImmBase _ _ => true
  | .storwImmDisp16 _ _ _ => true
  | .storwImmAbs _ _ => true

/-- The instruction has an encoding. -/
abbrev Instr.WellFormed (i : Instr) : Prop := i.wf = true

/-- The length of the instruction in bytes, from its row of the opcode table. -/
def Instr.length (i : Instr) : Nat :=
  match i with
  | .addbReg _ _ => 2
  | .addbImm5 _ _ => 2
  | .addbImm16 _ _ => 4
  | .addwReg _ _ => 2
  | .addwImm5 _ _ => 2
  | .addwImm16 _ _ => 4
  | .addubReg _ _ => 2
  | .addubImm5 _ _ => 2
  | .addubImm16 _ _ => 4
  | .adduwReg _ _ => 2
  | .adduwImm5 _ _ => 2
  | .adduwImm16 _ _ => 4
  | .mulbReg _ _ => 2
  | .mulbImm5 _ _ => 2
  | .mulbImm16 _ _ => 4
  | .mulwReg _ _ => 2
  | .mulwImm5 _ _ => 2
  | .mulwImm16 _ _ => 4
  | .ashubReg _ _ => 2
  | .ashubImm5 _ _ => 2
  | .ashubImm16 _ _ => 4
  | .ashuwReg _ _ => 2
  | .ashuwImm5 _ _ => 2
  | .ashuwImm16 _ _ => 4
  | .lshbReg _ _ => 2
  | .lshbImm5 _ _ => 2
  | .lshbImm16 _ _ => 4
  | .lshwReg _ _ => 2
  | .lshwImm5 _ _ => 2
  | .lshwImm16 _ _ => 4
  | .xorbReg _ _ => 2
  | .xorbImm5 _ _ => 2
  | .xorbImm16 _ _ => 4
  | .xorwReg _ _ => 2
  | .xorwImm5 _ _ => 2
  | .xorwImm16 _ _ => 4
  | .cmpbReg _ _ => 2
  | .cmpbImm5 _ _ => 2
  | .cmpbImm16 _ _ => 4
  | .cmpwReg _ _ => 2
  | .cmpwImm5 _ _ => 2
  | .cmpwImm16 _ _ => 4
  | .andbReg _ _ => 2
  | .andbImm5 _ _ => 2
  | .andbImm16 _ _ => 4
  | .andwReg _ _ => 2
  | .andwImm5 _ _ => 2
  | .andwImm16 _ _ => 4
  | .addcbReg _ _ => 2
  | .addcbImm5 _ _ => 2
  | .addcbImm16 _ _ => 4
  | .addcwReg _ _ => 2
  | .addcwImm5 _ _ => 2
  | .addcwImm16 _ _ => 4
  | .movbReg _ _ => 2
  | .movbImm5 _ _ => 2
  | .movbImm16 _ _ => 4
  | .movwReg _ _ => 2
  | .movwImm5 _ _ => 2
  | .movwImm16 _ _ => 4
  | .subcbReg _ _ => 2
  | .subcbImm5 _ _ => 2
  | .subcbImm16 _ _ => 4
  | .subcwReg _ _ => 2
  | .subcwImm5 _ _ => 2
  | .subcwImm16 _ _ => 4
  | .orbReg _ _ => 2
  | .orbImm5 _ _ => 2
  | .orbImm16 _ _ => 4
  | .orwReg _ _ => 2
  | .orwImm5 _ _ => 2
  | .orwImm16 _ _ => 4
  | .subbReg _ _ => 2
  | .subbImm5 _ _ => 2
  | .subbImm16 _ _ => 4
  | .subwReg _ _ => 2
  | .subwImm5 _ _ => 2
  | .subwImm16 _ _ => 4
  | .tbitReg _ _ => 2
  | .tbitImm5 _ _ => 2
  | .tbitImm16 _ _ => 4
  | .nop => 2
  | .beq0b _ _ => 2
  | .beq0w _ _ => 2
  | .beq1b _ _ => 2
  | .beq1w _ _ => 2
  | .bne0b _ _ => 2
  | .bne0w _ _ => 2
  | .bne1b _ _ => 2
  | .bne1w _ _ => 2
  | .movd _ _ => 4
  | .mulsb _ _ => 2
  | .mulsw _ _ => 2
  | .muluw _ _ => 2
  | .movxb _ _ => 2
  | .movzb _ _ => 2
  | .push _ _ => 2
  | .pop _ _ => 2
  | .popretSmall _ _ => 2
  | .popretLarge _ _ => 2
  | .seq _ => 2
  | .sne _ => 2
  | .scs _ => 2
  | .scc _ => 2
  | .shi _ => 2
  | .sls _ => 2
  | .sgt _ => 2
  | .sle _ => 2
  | .sfs _ => 2
  | .sfc _ => 2
  | .slo _ => 2
  | .shs _ => 2
  | .slt _ => 2
  | .sge _ => 2
  | .lpr _ _ => 2
  | .spr _ _ => 2
  | .beqDisp9 _ => 2
  | .beqDisp17 _ => 4
  | .beqDisp21 _ => 4
  | .bneDisp9 _ => 2
  | .bneDisp17 _ => 4
  | .bneDisp21 _ => 4
  | .bcsDisp9 _ => 2
  | .bcsDisp17 _ => 4
  | .bcsDisp21 _ => 4
  | .bccDisp9 _ => 2
  | .bccDisp17 _ => 4
  | .bccDisp21 _ => 4
  | .bhiDisp9 _ => 2
  | .bhiDisp17 _ => 4
  | .bhiDisp21 _ => 4
  | .blsDisp9 _ => 2
  | .blsDisp17 _ => 4
  | .blsDisp21 _ => 4
  | .bgtDisp9 _ => 2
  | .bgtDisp17 _ => 4
  | .bgtDisp21 _ => 4
  | .bleDisp9 _ => 2
  | .bleDisp17 _ => 4
  | .bleDisp21 _ => 4
  | .bfsDisp9 _ => 2
  | .bfsDisp17 _ => 4
  | .bfsDisp21 _ => 4
  | .bfcDisp9 _ => 2
  | .bfcDisp17 _ => 4
  | .bfcDisp21 _ => 4
  | .bloDisp9 _ => 2
  | .bloDisp17 _ => 4
  | .bloDisp21 _ => 4
  | .bhsDisp9 _ => 2
  | .bhsDisp17 _ => 4
  | .bhsDisp21 _ => 4
  | .bltDisp9 _ => 2
  | .bltDisp17 _ => 4
  | .bltDisp21 _ => 4
  | .bgeDisp9 _ => 2
  | .bgeDisp17 _ => 4
  | .bgeDisp21 _ => 4
  | .brDisp9 _ => 2
  | .brDisp17 _ => 4
  | .brDisp21 _ => 4
  | .balSmall _ _ => 4
  | .balLarge _ _ => 4
  | .jeqSmall _ => 2
  | .jeqLarge _ => 2
  | .jneSmall _ => 2
  | .jneLarge _ => 2
  | .jcsSmall _ => 2
  | .jcsLarge _ => 2
  | .jccSmall _ => 2
  | .jccLarge _ => 2
  | .jhiSmall _ => 2
  | .jhiLarge _ => 2
  | .jlsSmall _ => 2
  | .jlsLarge _ => 2
  | .jgtSmall _ => 2
  | .jgtLarge _ => 2
  | .jleSmall _ => 2
  | .jleLarge _ => 2
  | .jfsSmall _ => 2
  | .jfsLarge _ => 2
  | .jfcSmall _ => 2
  | .jfcLarge _ => 2
  | .jloSmall _ => 2
  | .jloLarge _ => 2
  | .jhsSmall _ => 2
  | .jhsLarge _ => 2
  | .jltSmall _ => 2
  | .jltLarge _ => 2
  | .jgeSmall _ => 2
  | .jgeLarge _ => 2
  | .jumpSmall _ => 2
  | .jumpLarge _ => 2
  | .jalSmall _ _ => 2
  | .jalLarge _ _ => 2
  | .retx => 2
  | .excp _ => 2
  | .di => 2
  | .ei => 2
  | .loadm _ => 2
  | .storm _ => 2
  | .eiwait => 2
  | .wait => 2
  | .loadbDisp5 _ _ _ => 2
  | .loadbDisp18 _ _ _ => 4
  | .loadbFar _ _ _ => 4
  | .loadbAbs _ _ => 4
  | .loadwDisp5 _ _ _ => 2
  | .loadwDisp18 _ _ _ => 4
  | .loadwFar _ _ _ => 4
  | .loadwAbs _ _ => 4
  | .storbDisp5 _ _ _ => 2
  | .storbDisp18 _ _ _ => 4
  | .storbFar _ _ _ => 4
  | .storbAbs _ _ => 4
  | .storwDisp5 _ _ _ => 2
  | .storwDisp18 _ _ _ => 4
  | .storwFar _ _ _ => 4
  | .storwAbs _ _ => 4
  | .cbitbBase _ _ => 2
  | .cbitbDisp16 _ _ _ => 4
  | .cbitbAbs _ _ => 4
  | .cbitwBase _ _ => 2
  | .cbitwDisp16 _ _ _ => 4
  | .cbitwAbs _ _ => 4
  | .sbitbBase _ _ => 2
  | .sbitbDisp16 _ _ _ => 4
  | .sbitbAbs _ _ => 4
  | .sbitwBase _ _ => 2
  | .sbitwDisp16 _ _ _ => 4
  | .sbitwAbs _ _ => 4
  | .tbitbBase _ _ => 2
  | .tbitbDisp16 _ _ _ => 4
  | .tbitbAbs _ _ => 4
  | .tbitwBase _ _ => 2
  | .tbitwDisp16 _ _ _ => 4
  | .tbitwAbs _ _ => 4
  | .storbImmBase _ _ => 2
  | .storbImmDisp16 _ _ _ => 4
  | .storbImmAbs _ _ => 4
  | .storwImmBase _ _ => 2
  | .storwImmDisp16 _ _ _ => 4
  | .storwImmAbs _ _ => 4

end Sys2Proof
end

