-- ==== Sys2Proof/Decode.lean ====
section
/-! DEFINITION. The decoder, total on any words and any bytes, and the encoder, both written from
30_encoding.md. A first word is cut once into the fields every format shares (R91); the decode tree
is R93. The words no row matches are rejected by name (R113, R114) and take the UND trap in the
machine (60_exceptions.md R253, 92_eei_decisions.md D7). -/

namespace Sys2Proof

/-- Why words are no instruction. The machine answers each of the first five with the UND trap. -/
inductive Undefined where
  /-- Patterns Table B-1 names as undefined (30_encoding.md R113). -/
  | tableB1
  /-- Special-format patterns no table lists (30_encoding.md R114 (a) to (d)). -/
  | unlistedSpecial
  /-- The register form of TBIT with i = 0 (30_encoding.md R114 (e)). -/
  | byteTbit
  /-- The small-model branch space with bits 3:1 not 111 (30_encoding.md R114 (f)). -/
  | smallBranchGap
  /-- Condition code 1111, or 1110 in Scond (30_encoding.md R114 (g)). -/
  | unassignedCond
  /-- The bytes end before the instruction does: raised by `decodeBytes` only, never by the machine,
  whose fetch always delivers the words. -/
  | truncated
deriving DecidableEq, Repr

/-- The fields of a first word: bits 15, 14, 13 (i), 12:9 (op4), 8:5 (op2), 4:1 (op1) and 0
(30_encoding.md R91). -/
structure Fields where
  b15 : Bool
  b14 : Bool
  i : Bool
  op4 : BitVec 4
  op2 : BitVec 4
  op1 : BitVec 4
  b0 : Bool
deriving DecidableEq, Repr

/-- The fields of a first word (30_encoding.md R91). -/
def fieldsOf (w : Word) : Fields :=
  ⟨w.getLsbD 15, w.getLsbD 14, w.getLsbD 13, w.extractLsb' 9 4, w.extractLsb' 5 4, w.extractLsb' 1 4,
    w.getLsbD 0⟩

/-- The first word with the given fields (30_encoding.md R91). -/
def wordOf (f : Fields) : Word :=
  BitVec.ofBool f.b15 ++ BitVec.ofBool f.b14 ++ BitVec.ofBool f.i ++ f.op4 ++ f.op2 ++ f.op1 ++
    BitVec.ofBool f.b0

/-- A register field (10_state.md R21). -/
def regOf (b : BitVec 4) : Reg := b.toFin

/-- The code of a register (10_state.md R21). -/
def regBits (r : Reg) : BitVec 4 := BitVec.ofFin r

/-- The restricted register of the field (b3, b0) (10_state.md R24). -/
def restrictedOf (b3 b0 : Bool) : Restricted :=
  match b3, b0 with
  | false, false => .r0
  | false, true => .r1
  | true, false => .r8
  | true, true => .r9

/-- The bit b3 of a restricted register's number 8*b3 + b0 (10_state.md R24). -/
def restrictedB3 (r : Restricted) : Bool :=
  match r with
  | .r0 => false
  | .r1 => false
  | .r8 => true
  | .r9 => true

/-- The bit b0 of a restricted register's number 8*b3 + b0 (10_state.md R24). -/
def restrictedB0 (r : Restricted) : Bool :=
  match r with
  | .r0 => false
  | .r1 => true
  | .r8 => false
  | .r9 => true

/-- The condition of a code; none for 1110 and 1111 (30_encoding.md R109). -/
def condOf (c : BitVec 4) : Option Cond :=
  match c with
  | 0b0000#4 => some .eq
  | 0b0001#4 => some .ne
  | 0b0010#4 => some .cs
  | 0b0011#4 => some .cc
  | 0b0100#4 => some .hi
  | 0b0101#4 => some .ls
  | 0b0110#4 => some .gt
  | 0b0111#4 => some .le
  | 0b1000#4 => some .fs
  | 0b1001#4 => some .fc
  | 0b1010#4 => some .lo
  | 0b1011#4 => some .hs
  | 0b1100#4 => some .lt
  | 0b1101#4 => some .ge
  | _ => none

/-- The code of a condition (30_encoding.md R109). -/
def condCode (c : Cond) : BitVec 4 :=
  match c with
  | .eq => 0b0000#4
  | .ne => 0b0001#4
  | .cs => 0b0010#4
  | .cc => 0b0011#4
  | .hi => 0b0100#4
  | .ls => 0b0101#4
  | .gt => 0b0110#4
  | .le => 0b0111#4
  | .fs => 0b1000#4
  | .fc => 0b1001#4
  | .lo => 0b1010#4
  | .hs => 0b1011#4
  | .lt => 0b1100#4
  | .ge => 0b1101#4

/-- The length in bytes of the instruction that begins with word w (30_encoding.md R92, whose six
cases stand in its order). -/
def instrLength (w : Word) : Nat :=
  let f := fieldsOf w
  if !f.b15 && !f.b14 && !(f.op4 == 0b0010#4) && !(f.op4 == 0b1010#4)
      && !(f.op4 == 0b1011#4 && !f.i) && (f.op1 == 0b1000#4 && f.b0) then 4
  else if !f.b15 && f.b14 && f.i && (f.op4 == 0b0010#4 || f.op4 == 0b0011#4) && !f.b0 then 4
  else if !f.b15 && !f.b14 && f.op4 == 0b1010#4 && !f.b0 then 4
  else if !f.b15 && f.b14 && f.i && (f.op4 == 0b1010#4 || f.op4 == 0b1011#4) && !f.b0 then 4
  else if !f.b15 && !f.b14 && f.op4 == 0b0010#4 then 4
  else if f.b15 && f.op4.getLsbD 3 && f.b0 then 4
  else 2

/-! ## Field groups -/

/-- disp9 = (w[12:9], w[4:0]) (30_encoding.md R103). -/
def disp9Of (f : Fields) : BitVec 9 := f.op4 ++ f.op1 ++ BitVec.ofBool f.b0

/-- disp17 = (w[4], w2) (30_encoding.md R104, R106). -/
def disp17Of (f : Fields) (w2 : Word) : BitVec 17 := BitVec.ofBool (f.op1.getLsbD 3) ++ w2

/-- disp21 = (w2[0], w[3:1], w[4], w2[15:1], 0) (30_encoding.md R105, R106). -/
def disp21Of (f : Fields) (w2 : Word) : BitVec 21 :=
  BitVec.ofBool (w2.getLsbD 0) ++ f.op1.extractLsb' 0 3 ++ BitVec.ofBool (f.op1.getLsbD 3)
    ++ w2.extractLsb' 1 15 ++ 0#1

/-- imm21 = (w[9], w[3:1], w[4], w2) of MOVD (30_encoding.md R99). -/
def imm21Of (f : Fields) (w2 : Word) : BitVec 21 :=
  BitVec.ofBool (f.op4.getLsbD 0) ++ f.op1.extractLsb' 0 3 ++ BitVec.ofBool (f.op1.getLsbD 3) ++ w2

/-- The short immediate field w[4:0] (30_encoding.md R95). -/
def imm5Of (f : Fields) : BitVec 5 := f.op1 ++ BitVec.ofBool f.b0

/-- The displacement (w[4:1], 0) of compare-and-branch (30_encoding.md R98). -/
def cmpDispOf (f : Fields) : BitVec 5 := f.op1 ++ 0#1

/-- disp5 = (w[12:9], w[0]) (30_encoding.md R101 (a)). -/
def disp5Of (f : Fields) : BitVec 5 := f.op4 ++ BitVec.ofBool f.b0

/-- The 18-bit displacement or address (w[10:9], w2) (30_encoding.md R101 (b) to (d)). -/
def disp18Of (f : Fields) (w2 : Word) : BitVec 18 := f.op4.extractLsb' 0 2 ++ w2

/-- The absolute address (w[8], w[5], w2) of the bit group (30_encoding.md R108). -/
def bitAbs18Of (f : Fields) (w2 : Word) : BitVec 18 :=
  BitVec.ofBool (f.op2.getLsbD 3) ++ BitVec.ofBool (f.op2.getLsbD 0) ++ w2

/-- The restricted register (w[8], w[5]) (30_encoding.md R98, R108). -/
def op2Restricted (f : Fields) : Restricted := restrictedOf (f.op2.getLsbD 3) (f.op2.getLsbD 0)

/-- The extension field w[7:6] (30_encoding.md R98, R108). -/
def op2Ext (f : Fields) : BitVec 2 := f.op2.extractLsb' 1 2

/-! ## The decode tree -/

/-- Register-register format (30_encoding.md R94, R97). -/
def decodeReg (f : Fields) : Except Undefined Instr :=
  let src := regOf f.op1
  let dest := regOf f.op2
  match f.op4, f.i with
  | 0b0000#4, false => .ok (.addbReg src dest)
  | 0b0000#4, true => .ok (.addwReg src dest)
  | 0b0001#4, false => .ok (.addubReg src dest)
  | 0b0001#4, true => .ok (.adduwReg src dest)
  | 0b0011#4, false => .ok (.mulbReg src dest)
  | 0b0011#4, true => .ok (.mulwReg src dest)
  | 0b0100#4, false => .ok (.ashubReg src dest)
  | 0b0100#4, true => .ok (.ashuwReg src dest)
  | 0b0101#4, false => .ok (.lshbReg src dest)
  | 0b0101#4, true => .ok (.lshwReg src dest)
  | 0b0110#4, false => .ok (.xorbReg src dest)
  | 0b0110#4, true => .ok (.xorwReg src dest)
  | 0b0111#4, false => .ok (.cmpbReg src dest)
  | 0b0111#4, true => .ok (.cmpwReg src dest)
  | 0b1000#4, false => .ok (.andbReg src dest)
  | 0b1000#4, true => .ok (.andwReg src dest)
  | 0b1001#4, false => .ok (.addcbReg src dest)
  | 0b1001#4, true => .ok (.addcwReg src dest)
  | 0b1011#4, false => .error .byteTbit
  | 0b1011#4, true => .ok (.tbitReg src dest)
  | 0b1100#4, false => .ok (.movbReg src dest)
  | 0b1100#4, true => .ok (.movwReg src dest)
  | 0b1101#4, false => .ok (.subcbReg src dest)
  | 0b1101#4, true => .ok (.subcwReg src dest)
  | 0b1110#4, false => .ok (.orbReg src dest)
  | 0b1110#4, true => .ok (.orwReg src dest)
  | 0b1111#4, false => .ok (.subbReg src dest)
  | 0b1111#4, true => .ok (.subwReg src dest)
  | _, _ => .error .unlistedSpecial

/-- Short-immediate format (30_encoding.md R95, R97); 0x0200 is NOP (R112). -/
def decodeImm5 (f : Fields) : Except Undefined Instr :=
  let imm := imm5Of f
  let dest := regOf f.op2
  match f.op4, f.i with
  | 0b0000#4, false => .ok (.addbImm5 imm dest)
  | 0b0000#4, true => .ok (.addwImm5 imm dest)
  | 0b0001#4, false => if imm == 0 && dest == 0 then .ok .nop else .ok (.addubImm5 imm dest)
  | 0b0001#4, true => .ok (.adduwImm5 imm dest)
  | 0b0011#4, false => .ok (.mulbImm5 imm dest)
  | 0b0011#4, true => .ok (.mulwImm5 imm dest)
  | 0b0100#4, false => .ok (.ashubImm5 imm dest)
  | 0b0100#4, true => .ok (.ashuwImm5 imm dest)
  | 0b0101#4, false => .ok (.lshbImm5 imm dest)
  | 0b0101#4, true => .ok (.lshwImm5 imm dest)
  | 0b0110#4, false => .ok (.xorbImm5 imm dest)
  | 0b0110#4, true => .ok (.xorwImm5 imm dest)
  | 0b0111#4, false => .ok (.cmpbImm5 imm dest)
  | 0b0111#4, true => .ok (.cmpwImm5 imm dest)
  | 0b1000#4, false => .ok (.andbImm5 imm dest)
  | 0b1000#4, true => .ok (.andwImm5 imm dest)
  | 0b1001#4, false => .ok (.addcbImm5 imm dest)
  | 0b1001#4, true => .ok (.addcwImm5 imm dest)
  | 0b1011#4, true => .ok (.tbitImm5 imm dest)
  | 0b1100#4, false => .ok (.movbImm5 imm dest)
  | 0b1100#4, true => .ok (.movwImm5 imm dest)
  | 0b1101#4, false => .ok (.subcbImm5 imm dest)
  | 0b1101#4, true => .ok (.subcwImm5 imm dest)
  | 0b1110#4, false => .ok (.orbImm5 imm dest)
  | 0b1110#4, true => .ok (.orwImm5 imm dest)
  | 0b1111#4, false => .ok (.subbImm5 imm dest)
  | 0b1111#4, true => .ok (.subwImm5 imm dest)
  | _, _ => .error .unlistedSpecial

/-- Medium-immediate format (30_encoding.md R96, R97). -/
def decodeImm16 (f : Fields) (w2 : Word) : Except Undefined Instr :=
  let dest := regOf f.op2
  match f.op4, f.i with
  | 0b0000#4, false => .ok (.addbImm16 w2 dest)
  | 0b0000#4, true => .ok (.addwImm16 w2 dest)
  | 0b0001#4, false => .ok (.addubImm16 w2 dest)
  | 0b0001#4, true => .ok (.adduwImm16 w2 dest)
  | 0b0011#4, false => .ok (.mulbImm16 w2 dest)
  | 0b0011#4, true => .ok (.mulwImm16 w2 dest)
  | 0b0100#4, false => .ok (.ashubImm16 w2 dest)
  | 0b0100#4, true => .ok (.ashuwImm16 w2 dest)
  | 0b0101#4, false => .ok (.lshbImm16 w2 dest)
  | 0b0101#4, true => .ok (.lshwImm16 w2 dest)
  | 0b0110#4, false => .ok (.xorbImm16 w2 dest)
  | 0b0110#4, true => .ok (.xorwImm16 w2 dest)
  | 0b0111#4, false => .ok (.cmpbImm16 w2 dest)
  | 0b0111#4, true => .ok (.cmpwImm16 w2 dest)
  | 0b1000#4, false => .ok (.andbImm16 w2 dest)
  | 0b1000#4, true => .ok (.andwImm16 w2 dest)
  | 0b1001#4, false => .ok (.addcbImm16 w2 dest)
  | 0b1001#4, true => .ok (.addcwImm16 w2 dest)
  | 0b1011#4, true => .ok (.tbitImm16 w2 dest)
  | 0b1100#4, false => .ok (.movbImm16 w2 dest)
  | 0b1100#4, true => .ok (.movwImm16 w2 dest)
  | 0b1101#4, false => .ok (.subcbImm16 w2 dest)
  | 0b1101#4, true => .ok (.subcwImm16 w2 dest)
  | 0b1110#4, false => .ok (.orbImm16 w2 dest)
  | 0b1110#4, true => .ok (.orwImm16 w2 dest)
  | 0b1111#4, false => .ok (.subbImm16 w2 dest)
  | 0b1111#4, true => .ok (.subwImm16 w2 dest)
  | _, _ => .error .unlistedSpecial

/-- Compare-and-branch format (30_encoding.md R98). -/
def decodeCmpBranch (f : Fields) : Except Undefined Instr :=
  let src := op2Restricted f
  let disp := cmpDispOf f
  match op2Ext f, f.i with
  | 0b00#2, false => .ok (.beq0b src disp)
  | 0b00#2, true => .ok (.beq0w src disp)
  | 0b01#2, false => .ok (.beq1b src disp)
  | 0b01#2, true => .ok (.beq1w src disp)
  | 0b10#2, false => .ok (.bne0b src disp)
  | 0b10#2, true => .ok (.bne0w src disp)
  | _, false => .ok (.bne1b src disp)
  | _, true => .ok (.bne1w src disp)

/-- Bcond and BR with disp9, by the cond field (30_encoding.md R103, R109). -/
def decodeBranch9 (cond : BitVec 4) (disp : BitVec 9) : Except Undefined Instr :=
  match cond with
  | 0b0000#4 => .ok (.beqDisp9 disp)
  | 0b0001#4 => .ok (.bneDisp9 disp)
  | 0b0010#4 => .ok (.bcsDisp9 disp)
  | 0b0011#4 => .ok (.bccDisp9 disp)
  | 0b0100#4 => .ok (.bhiDisp9 disp)
  | 0b0101#4 => .ok (.blsDisp9 disp)
  | 0b0110#4 => .ok (.bgtDisp9 disp)
  | 0b0111#4 => .ok (.bleDisp9 disp)
  | 0b1000#4 => .ok (.bfsDisp9 disp)
  | 0b1001#4 => .ok (.bfcDisp9 disp)
  | 0b1010#4 => .ok (.bloDisp9 disp)
  | 0b1011#4 => .ok (.bhsDisp9 disp)
  | 0b1100#4 => .ok (.bltDisp9 disp)
  | 0b1101#4 => .ok (.bgeDisp9 disp)
  | 0b1110#4 => .ok (.brDisp9 disp)
  | _ => .error .unassignedCond

/-- Bcond and BR with disp17, by the cond field (30_encoding.md R104, R109). -/
def decodeBranch17 (cond : BitVec 4) (disp : BitVec 17) : Except Undefined Instr :=
  match cond with
  | 0b0000#4 => .ok (.beqDisp17 disp)
  | 0b0001#4 => .ok (.bneDisp17 disp)
  | 0b0010#4 => .ok (.bcsDisp17 disp)
  | 0b0011#4 => .ok (.bccDisp17 disp)
  | 0b0100#4 => .ok (.bhiDisp17 disp)
  | 0b0101#4 => .ok (.blsDisp17 disp)
  | 0b0110#4 => .ok (.bgtDisp17 disp)
  | 0b0111#4 => .ok (.bleDisp17 disp)
  | 0b1000#4 => .ok (.bfsDisp17 disp)
  | 0b1001#4 => .ok (.bfcDisp17 disp)
  | 0b1010#4 => .ok (.bloDisp17 disp)
  | 0b1011#4 => .ok (.bhsDisp17 disp)
  | 0b1100#4 => .ok (.bltDisp17 disp)
  | 0b1101#4 => .ok (.bgeDisp17 disp)
  | 0b1110#4 => .ok (.brDisp17 disp)
  | _ => .error .unassignedCond

/-- Bcond and BR with disp21, by the cond field (30_encoding.md R105, R109). -/
def decodeBranch21 (cond : BitVec 4) (disp : BitVec 21) : Except Undefined Instr :=
  match cond with
  | 0b0000#4 => .ok (.beqDisp21 disp)
  | 0b0001#4 => .ok (.bneDisp21 disp)
  | 0b0010#4 => .ok (.bcsDisp21 disp)
  | 0b0011#4 => .ok (.bccDisp21 disp)
  | 0b0100#4 => .ok (.bhiDisp21 disp)
  | 0b0101#4 => .ok (.blsDisp21 disp)
  | 0b0110#4 => .ok (.bgtDisp21 disp)
  | 0b0111#4 => .ok (.bleDisp21 disp)
  | 0b1000#4 => .ok (.bfsDisp21 disp)
  | 0b1001#4 => .ok (.bfcDisp21 disp)
  | 0b1010#4 => .ok (.bloDisp21 disp)
  | 0b1011#4 => .ok (.bhsDisp21 disp)
  | 0b1100#4 => .ok (.bltDisp21 disp)
  | 0b1101#4 => .ok (.bgeDisp21 disp)
  | 0b1110#4 => .ok (.brDisp21 disp)
  | _ => .error .unassignedCond

/-- Jcond and JUMP, small memory model, by the cond field (30_encoding.md R107, R109). -/
def decodeJumpSmall (cond : BitVec 4) (target : Reg) : Except Undefined Instr :=
  match cond with
  | 0b0000#4 => .ok (.jeqSmall target)
  | 0b0001#4 => .ok (.jneSmall target)
  | 0b0010#4 => .ok (.jcsSmall target)
  | 0b0011#4 => .ok (.jccSmall target)
  | 0b0100#4 => .ok (.jhiSmall target)
  | 0b0101#4 => .ok (.jlsSmall target)
  | 0b0110#4 => .ok (.jgtSmall target)
  | 0b0111#4 => .ok (.jleSmall target)
  | 0b1000#4 => .ok (.jfsSmall target)
  | 0b1001#4 => .ok (.jfcSmall target)
  | 0b1010#4 => .ok (.jloSmall target)
  | 0b1011#4 => .ok (.jhsSmall target)
  | 0b1100#4 => .ok (.jltSmall target)
  | 0b1101#4 => .ok (.jgeSmall target)
  | 0b1110#4 => .ok (.jumpSmall target)
  | _ => .error .unassignedCond

/-- Jcond and JUMP, large memory model, by the cond field (30_encoding.md R107, R109). -/
def decodeJumpLarge (cond : BitVec 4) (target : Reg) : Except Undefined Instr :=
  match cond with
  | 0b0000#4 => .ok (.jeqLarge target)
  | 0b0001#4 => .ok (.jneLarge target)
  | 0b0010#4 => .ok (.jcsLarge target)
  | 0b0011#4 => .ok (.jccLarge target)
  | 0b0100#4 => .ok (.jhiLarge target)
  | 0b0101#4 => .ok (.jlsLarge target)
  | 0b0110#4 => .ok (.jgtLarge target)
  | 0b0111#4 => .ok (.jleLarge target)
  | 0b1000#4 => .ok (.jfsLarge target)
  | 0b1001#4 => .ok (.jfcLarge target)
  | 0b1010#4 => .ok (.jloLarge target)
  | 0b1011#4 => .ok (.jhsLarge target)
  | 0b1100#4 => .ok (.jltLarge target)
  | 0b1101#4 => .ok (.jgeLarge target)
  | 0b1110#4 => .ok (.jumpLarge target)
  | _ => .error .unassignedCond

/-- Scond, by the cond field; 1110 and 1111 are no Scond (30_encoding.md R100, R109, R114 (g)). -/
def decodeScond (cond : BitVec 4) (dest : Reg) : Except Undefined Instr :=
  match cond with
  | 0b0000#4 => .ok (.seq dest)
  | 0b0001#4 => .ok (.sne dest)
  | 0b0010#4 => .ok (.scs dest)
  | 0b0011#4 => .ok (.scc dest)
  | 0b0100#4 => .ok (.shi dest)
  | 0b0101#4 => .ok (.sls dest)
  | 0b0110#4 => .ok (.sgt dest)
  | 0b0111#4 => .ok (.sle dest)
  | 0b1000#4 => .ok (.sfs dest)
  | 0b1001#4 => .ok (.sfc dest)
  | 0b1010#4 => .ok (.slo dest)
  | 0b1011#4 => .ok (.shs dest)
  | 0b1100#4 => .ok (.slt dest)
  | 0b1101#4 => .ok (.sge dest)
  | _ => .error .unassignedCond

/-- The bit group and STORi $imm4, 0(Rbase) form, by the extension field (30_encoding.md R108). -/
def decodeBitsBase (ext : BitVec 2) (i : Bool) (pos : BitVec 4) (base : Restricted) : Instr :=
  match ext, i with
  | 0b00#2, false => .cbitbBase pos base
  | 0b00#2, true => .cbitwBase pos base
  | 0b01#2, false => .sbitbBase pos base
  | 0b01#2, true => .sbitwBase pos base
  | 0b10#2, false => .tbitbBase pos base
  | 0b10#2, true => .tbitwBase pos base
  | _, false => .storbImmBase pos base
  | _, true => .storwImmBase pos base

/-- The bit group and STORi $imm4, disp16(Rbase) form, by the extension field (30_encoding.md R108). -/
def decodeBitsDisp16 (ext : BitVec 2) (i : Bool) (pos : BitVec 4) (disp : BitVec 16) (base : Restricted) : Instr :=
  match ext, i with
  | 0b00#2, false => .cbitbDisp16 pos disp base
  | 0b00#2, true => .cbitwDisp16 pos disp base
  | 0b01#2, false => .sbitbDisp16 pos disp base
  | 0b01#2, true => .sbitwDisp16 pos disp base
  | 0b10#2, false => .tbitbDisp16 pos disp base
  | 0b10#2, true => .tbitwDisp16 pos disp base
  | _, false => .storbImmDisp16 pos disp base
  | _, true => .storwImmDisp16 pos disp base

/-- The bit group and STORi $imm4, abs18 form, by the extension field (30_encoding.md R108). -/
def decodeBitsAbs (ext : BitVec 2) (i : Bool) (pos : BitVec 4) (addr : BitVec 18) : Instr :=
  match ext, i with
  | 0b00#2, false => .cbitbAbs pos addr
  | 0b00#2, true => .cbitwAbs pos addr
  | 0b01#2, false => .sbitbAbs pos addr
  | 0b01#2, true => .sbitwAbs pos addr
  | 0b10#2, false => .tbitbAbs pos addr
  | 0b10#2, true => .tbitwAbs pos addr
  | _, false => .storbImmAbs pos addr
  | _, true => .storwImmAbs pos addr

/-- The special format `011 op4 op2 op1 0` (30_encoding.md R100, with R99, R105, R106 for the 4-byte
rows and R113, R114 for the patterns that are no instruction). -/
def decodeSpecial (f : Fields) (w2 : Word) : Except Undefined Instr :=
  let src := regOf f.op1
  let dest := regOf f.op2
  let rcnt := f.op2.extractLsb' 0 2
  match f.op4 with
  | 0b0000#4 => .ok (.mulsb src dest)
  | 0b0001#4 => .ok (.mulsw src dest)
  | 0b0010#4 => .ok (.movd (imm21Of f w2) dest)
  | 0b0011#4 => .ok (.movd (imm21Of f w2) dest)
  | 0b0100#4 => .ok (.movxb src dest)
  | 0b0101#4 => .ok (.movzb src dest)
  | 0b0110#4 =>
    match f.op2.getLsbD 3, f.op2.getLsbD 2 with
    | false, false => .ok (.push rcnt src)
    | false, true => .ok (.pop rcnt src)
    | true, false => .ok (.popretSmall rcnt src)
    | true, true => .ok (.popretLarge rcnt src)
  | 0b0111#4 => decodeScond f.op2 src
  | 0b1000#4 => .ok (.lpr src f.op2)
  | 0b1001#4 => .ok (.spr f.op2 src)
  | 0b1010#4 => decodeBranch21 f.op2 (disp21Of f w2)
  | 0b1011#4 => .ok (.balLarge dest (disp21Of f w2))
  | 0b1100#4 => if f.op2 == 0b1111#4 && f.op1 == 0b1111#4 then .ok .retx else .error .unlistedSpecial
  | 0b1101#4 => if f.op2 == 0b1111#4 then .ok (.excp f.op1) else .error .unlistedSpecial
  | 0b1110#4 =>
    if f.op2 == 0b1110#4 && f.op1 == 0b1111#4 then .ok .di
    else if f.op2 == 0b1111#4 && f.op1 == 0b1111#4 then .ok .ei
    else if !f.op2.getLsbD 1 then .error .tableB1
    else .error .unlistedSpecial
  | _ =>
    if !f.op1.getLsbD 2 && !f.op1.getLsbD 1 then
      .ok (.muluw (restrictedOf (f.op1.getLsbD 3) (f.op1.getLsbD 0)) dest)
    else if f.op1 == 0b0010#4 then
      if f.op2.getLsbD 3 then .error .tableB1
      else if f.op2.getLsbD 2 then .ok (.storm rcnt)
      else .ok (.loadm rcnt)
    else if f.op1 == 0b0011#4 then
      if f.op2 == 0b1111#4 then .ok .eiwait else .error .tableB1
    else if f.op1 == 0b1010#4 || f.op1 == 0b1011#4 then .error .tableB1
    else if f.op1 == 0b1111#4 && f.op2 == 0b1111#4 then .ok .wait
    else .error .unlistedSpecial

/-- LOADi: the displacement form by bits 12, 11 and 0 and the base field (30_encoding.md R101). -/
def decodeLoad (f : Fields) (w2 : Word) : Instr :=
  let dest := regOf f.op2
  let base := regOf f.op1
  if !(f.op4.getLsbD 3 && f.b0) then
    if f.i then .loadwDisp5 (disp5Of f) base dest else .loadbDisp5 (disp5Of f) base dest
  else if !f.op4.getLsbD 2 then
    if f.i then .loadwDisp18 (disp18Of f w2) base dest else .loadbDisp18 (disp18Of f w2) base dest
  else if f.op1 == 0b1111#4 then
    if f.i then .loadwAbs (disp18Of f w2) dest else .loadbAbs (disp18Of f w2) dest
  else
    if f.i then .loadwFar (disp18Of f w2) base dest else .loadbFar (disp18Of f w2) base dest

/-- STORi with a register source: the forms of LOADi (30_encoding.md R101). -/
def decodeStore (f : Fields) (w2 : Word) : Instr :=
  let src := regOf f.op2
  let base := regOf f.op1
  if !(f.op4.getLsbD 3 && f.b0) then
    if f.i then .storwDisp5 src (disp5Of f) base else .storbDisp5 src (disp5Of f) base
  else if !f.op4.getLsbD 2 then
    if f.i then .storwDisp18 src (disp18Of f w2) base else .storbDisp18 src (disp18Of f w2) base
  else if f.op1 == 0b1111#4 then
    if f.i then .storwAbs src (disp18Of f w2) else .storbAbs src (disp18Of f w2)
  else
    if f.i then .storwFar src (disp18Of f w2) base else .storbFar src (disp18Of f w2) base

/-- The space w[15:14] = 01 (30_encoding.md R93). -/
def decodeSpace01 (f : Fields) (w2 : Word) : Except Undefined Instr :=
  if !f.b0 then
    if f.i then decodeSpecial f w2 else decodeBranch9 f.op2 (disp9Of f)
  else if f.op4 == 0b0010#4 then .ok (decodeBitsBase (op2Ext f) f.i f.op1 (op2Restricted f))
  else if f.op4 == 0b1010#4 then
    if f.i then .ok (.jalSmall (regOf f.op2) (regOf f.op1)) else decodeJumpSmall f.op2 (regOf f.op1)
  else decodeReg f

/-- The space w[15:14] = 00 (30_encoding.md R93). -/
def decodeSpace00 (f : Fields) (w2 : Word) : Except Undefined Instr :=
  if f.op4 == 0b0010#4 then
    if f.b0 then .ok (decodeBitsDisp16 (op2Ext f) f.i f.op1 w2 (op2Restricted f))
    else .ok (decodeBitsAbs (op2Ext f) f.i f.op1 (bitAbs18Of f w2))
  else if f.op4 == 0b1010#4 then
    if f.b0 then decodeCmpBranch f
    else if f.op1.extractLsb' 0 3 == 0b111#3 then
      if f.i then .ok (.balSmall (regOf f.op2) (disp17Of f w2)) else decodeBranch17 f.op2 (disp17Of f w2)
    else .error .smallBranchGap
  else if f.op4 == 0b1011#4 && !f.i then
    if f.b0 then decodeJumpLarge f.op2 (regOf f.op1) else .ok (.jalLarge (regOf f.op2) (regOf f.op1))
  else if f.op1 == 0b1000#4 && f.b0 then decodeImm16 f w2
  else decodeImm5 f

/-- The decode tree over the fields of the first word and the second word (30_encoding.md R93). -/
def decodeFields (f : Fields) (w2 : Word) : Except Undefined Instr :=
  match f.b15, f.b14 with
  | true, false => .ok (decodeLoad f w2)
  | true, true => .ok (decodeStore f w2)
  | false, true => decodeSpace01 f w2
  | false, false => decodeSpace00 f w2

/-- The instruction whose first word is w and whose second word, if it has one, is w2. -/
def decode (w w2 : Word) : Except Undefined Instr := decodeFields (fieldsOf w) w2

/-- The instruction at the head of a list of words; a 2-byte instruction reads no second word. -/
def decodeWords (ws : List Word) : Except Undefined Instr :=
  match ws with
  | [] => .error .truncated
  | w :: rest =>
    if instrLength w = 4 then
      match rest with
      | [] => .error .truncated
      | w2 :: _ => decode w w2
    else decode w 0

/-- A word of two bytes in memory order, low byte first (20_memory.md R62). -/
def wordOfBytes (lo hi : Byte) : Word := hi ++ lo

/-- The words of bytes in memory order; an odd last byte makes no word (20_memory.md R62). -/
def wordsOfBytes (bs : List Byte) : List Word :=
  match bs with
  | lo :: hi :: rest => wordOfBytes lo hi :: wordsOfBytes rest
  | _ => []

/-- The instruction at the head of bytes in memory order. -/
def decodeBytes (bs : List Byte) : Except Undefined Instr := decodeWords (wordsOfBytes bs)

/-- The two bytes of a word in memory order, low byte first (20_memory.md R62). -/
def bytesOfWord (w : Word) : List Byte := [w.extractLsb' 0 8, w.extractLsb' 8 8]

/-- The four bytes in memory order of an instruction whose bits are w, of which the table gives the
low nbits: first word in the low 16 bits, every bit above nbits 0. -/
def tableBytes (nbits w : Nat) : List Byte :=
  let v := w % 2 ^ nbits
  bytesOfWord (BitVec.ofNat 16 v) ++ bytesOfWord (BitVec.ofNat 16 (v / 65536))

/-- What the decoder reads from an instruction whose bits are w (opcode_table.json's numbering). -/
def decodeTableWord (nbits w : Nat) : Option Instr :=
  match decodeBytes (tableBytes nbits w) with
  | .ok i => some i
  | .error _ => none

/-! ## The encoder -/

/-- Register-register format (30_encoding.md R94). -/
def encReg (i : Bool) (op4 : BitVec 4) (src dest : Reg) : List Word :=
  [wordOf ⟨false, true, i, op4, regBits dest, regBits src, true⟩]

/-- Short-immediate format (30_encoding.md R95). -/
def encImm5 (i : Bool) (op4 : BitVec 4) (imm : BitVec 5) (dest : Reg) : List Word :=
  [wordOf ⟨false, false, i, op4, regBits dest, imm.extractLsb' 1 4, imm.getLsbD 0⟩]

/-- Medium-immediate format (30_encoding.md R96). -/
def encImm16 (i : Bool) (op4 : BitVec 4) (imm : Word) (dest : Reg) : List Word :=
  [wordOf ⟨false, false, i, op4, regBits dest, 0b1000#4, true⟩, imm]

/-- The op2 field (r3, ext, r0) of compare-and-branch and of the bit group (30_encoding.md R98, R108). -/
def encExt (ext : BitVec 2) (b3 b0 : Bool) : BitVec 4 := BitVec.ofBool b3 ++ ext ++ BitVec.ofBool b0

/-- Compare-and-branch format (30_encoding.md R98). -/
def encCmpBranch (i : Bool) (ext : BitVec 2) (src : Restricted) (disp : BitVec 5) : List Word :=
  [wordOf ⟨false, false, i, 0b1010#4, encExt ext (restrictedB3 src) (restrictedB0 src),
    disp.extractLsb' 1 4, true⟩]

/-- Special format (30_encoding.md R100). -/
def encSpecial (op4 op2 op1 : BitVec 4) : List Word := [wordOf ⟨false, true, true, op4, op2, op1, false⟩]

/-- A special-format row with a count field (30_encoding.md R100, R111). -/
def encCount (b8 b7 : Bool) (rcnt : BitVec 2) : BitVec 4 := BitVec.ofBool b8 ++ BitVec.ofBool b7 ++ rcnt

/-- MOVD (30_encoding.md R99). -/
def encMovd (imm : BitVec 21) (dest : Reg) : List Word :=
  [wordOf ⟨false, true, true, 0b001#3 ++ BitVec.ofBool (imm.getLsbD 20), regBits dest,
    BitVec.ofBool (imm.getLsbD 16) ++ imm.extractLsb' 17 3, false⟩, imm.extractLsb' 0 16]

/-- Bcond/BR disp9 (30_encoding.md R103). -/
def encBranch9 (cond : BitVec 4) (disp : BitVec 9) : List Word :=
  [wordOf ⟨false, true, false, disp.extractLsb' 5 4, cond, disp.extractLsb' 1 4, disp.getLsbD 0⟩]

/-- The small-model disp17 formats of Bcond/BR (i = 0) and BAL (i = 1) (30_encoding.md R104, R106). -/
def encBranch17 (i : Bool) (op2 : BitVec 4) (disp : BitVec 17) : List Word :=
  [wordOf ⟨false, false, i, 0b1010#4, op2, BitVec.ofBool (disp.getLsbD 16) ++ 0b111#3, false⟩,
    disp.extractLsb' 0 16]

/-- The large-model disp21 formats of Bcond/BR and BAL (30_encoding.md R105, R106). -/
def encBranch21 (op4 op2 : BitVec 4) (disp : BitVec 21) : List Word :=
  [wordOf ⟨false, true, true, op4, op2, BitVec.ofBool (disp.getLsbD 16) ++ disp.extractLsb' 17 3, false⟩,
    disp.extractLsb' 1 15 ++ BitVec.ofBool (disp.getLsbD 20)]

/-- Jcond/JUMP (i = 0) and JAL (i = 1), small model (30_encoding.md R107). -/
def encJumpSmall (i : Bool) (op2 : BitVec 4) (target : Reg) : List Word :=
  [wordOf ⟨false, true, i, 0b1010#4, op2, regBits target, true⟩]

/-- Jcond/JUMP (b0 = 1) and JAL (b0 = 0), large model (30_encoding.md R107). -/
def encJumpLarge (b0 : Bool) (op2 : BitVec 4) (target : Reg) : List Word :=
  [wordOf ⟨false, false, false, 0b1011#4, op2, regBits target, b0⟩]

/-- LOADi (store = false) and STORi (store = true), disp5 forms (30_encoding.md R101 (a)). -/
def encDisp5 (store i : Bool) (reg : Reg) (disp : BitVec 5) (base : Reg) : List Word :=
  [wordOf ⟨true, store, i, disp.extractLsb' 1 4, regBits reg, regBits base, disp.getLsbD 0⟩]

/-- LOADi and STORi, disp18 form (30_encoding.md R101 (b)). -/
def encDisp18 (store i : Bool) (reg : Reg) (disp : BitVec 18) (base : Reg) : List Word :=
  [wordOf ⟨true, store, i, 0b10#2 ++ disp.extractLsb' 16 2, regBits reg, regBits base, true⟩,
    disp.extractLsb' 0 16]

/-- LOADi and STORi, far form (30_encoding.md R101 (c)). -/
def encFar (store i : Bool) (reg : Reg) (disp : BitVec 18) (base : Reg) : List Word :=
  [wordOf ⟨true, store, i, 0b11#2 ++ disp.extractLsb' 16 2, regBits reg, regBits base, true⟩,
    disp.extractLsb' 0 16]

/-- LOADi and STORi, absolute form (30_encoding.md R101 (d)). -/
def encAbs (store i : Bool) (reg : Reg) (addr : BitVec 18) : List Word :=
  [wordOf ⟨true, store, i, 0b11#2 ++ addr.extractLsb' 16 2, regBits reg, 0b1111#4, true⟩,
    addr.extractLsb' 0 16]

/-- The bit group and STORi $imm4, 0(Rbase) form (30_encoding.md R108). -/
def encBitsBase (i : Bool) (ext : BitVec 2) (pos : BitVec 4) (base : Restricted) : List Word :=
  [wordOf ⟨false, true, i, 0b0010#4, encExt ext (restrictedB3 base) (restrictedB0 base), pos, true⟩]

/-- The bit group and STORi $imm4, disp16(Rbase) form (30_encoding.md R108). -/
def encBitsDisp16 (i : Bool) (ext : BitVec 2) (pos : BitVec 4) (disp : Word) (base : Restricted) :
    List Word :=
  [wordOf ⟨false, false, i, 0b0010#4, encExt ext (restrictedB3 base) (restrictedB0 base), pos, true⟩, disp]

/-- The bit group and STORi $imm4, abs18 form (30_encoding.md R108). -/
def encBitsAbs (i : Bool) (ext : BitVec 2) (pos : BitVec 4) (addr : BitVec 18) : List Word :=
  [wordOf ⟨false, false, i, 0b0010#4, encExt ext (addr.getLsbD 17) (addr.getLsbD 16), pos, false⟩,
    addr.extractLsb' 0 16]

/-- The words of an instruction, first word first. -/
def encode (i : Instr) : List Word :=
  match i with
  | .addbReg src dest => encReg false 0b0000#4 src dest
  | .addbImm5 imm dest => encImm5 false 0b0000#4 imm dest
  | .addbImm16 imm dest => encImm16 false 0b0000#4 imm dest
  | .addwReg src dest => encReg true 0b0000#4 src dest
  | .addwImm5 imm dest => encImm5 true 0b0000#4 imm dest
  | .addwImm16 imm dest => encImm16 true 0b0000#4 imm dest
  | .addubReg src dest => encReg false 0b0001#4 src dest
  | .addubImm5 imm dest => encImm5 false 0b0001#4 imm dest
  | .addubImm16 imm dest => encImm16 false 0b0001#4 imm dest
  | .adduwReg src dest => encReg true 0b0001#4 src dest
  | .adduwImm5 imm dest => encImm5 true 0b0001#4 imm dest
  | .adduwImm16 imm dest => encImm16 true 0b0001#4 imm dest
  | .mulbReg src dest => encReg false 0b0011#4 src dest
  | .mulbImm5 imm dest => encImm5 false 0b0011#4 imm dest
  | .mulbImm16 imm dest => encImm16 false 0b0011#4 imm dest
  | .mulwReg src dest => encReg true 0b0011#4 src dest
  | .mulwImm5 imm dest => encImm5 true 0b0011#4 imm dest
  | .mulwImm16 imm dest => encImm16 true 0b0011#4 imm dest
  | .ashubReg count dest => encReg false 0b0100#4 count dest
  | .ashubImm5 count dest => encImm5 false 0b0100#4 count dest
  | .ashubImm16 count dest => encImm16 false 0b0100#4 count dest
  | .ashuwReg count dest => encReg true 0b0100#4 count dest
  | .ashuwImm5 count dest => encImm5 true 0b0100#4 count dest
  | .ashuwImm16 count dest => encImm16 true 0b0100#4 count dest
  | .lshbReg count dest => encReg false 0b0101#4 count dest
  | .lshbImm5 count dest => encImm5 false 0b0101#4 count dest
  | .lshbImm16 count dest => encImm16 false 0b0101#4 count dest
  | .lshwReg count dest => encReg true 0b0101#4 count dest
  | .lshwImm5 count dest => encImm5 true 0b0101#4 count dest
  | .lshwImm16 count dest => encImm16 true 0b0101#4 count dest
  | .xorbReg src dest => encReg false 0b0110#4 src dest
  | .xorbImm5 imm dest => encImm5 false 0b0110#4 imm dest
  | .xorbImm16 imm dest => encImm16 false 0b0110#4 imm dest
  | .xorwReg src dest => encReg true 0b0110#4 src dest
  | .xorwImm5 imm dest => encImm5 true 0b0110#4 imm dest
  | .xorwImm16 imm dest => encImm16 true 0b0110#4 imm dest
  | .cmpbReg src1 src2 => encReg false 0b0111#4 src1 src2
  | .cmpbImm5 imm src2 => encImm5 false 0b0111#4 imm src2
  | .cmpbImm16 imm src2 => encImm16 false 0b0111#4 imm src2
  | .cmpwReg src1 src2 => encReg true 0b0111#4 src1 src2
  | .cmpwImm5 imm src2 => encImm5 true 0b0111#4 imm src2
  | .cmpwImm16 imm src2 => encImm16 true 0b0111#4 imm src2
  | .andbReg src dest => encReg false 0b1000#4 src dest
  | .andbImm5 imm dest => encImm5 false 0b1000#4 imm dest
  | .andbImm16 imm dest => encImm16 false 0b1000#4 imm dest
  | .andwReg src dest => encReg true 0b1000#4 src dest
  | .andwImm5 imm dest => encImm5 true 0b1000#4 imm dest
  | .andwImm16 imm dest => encImm16 true 0b1000#4 imm dest
  | .addcbReg src dest => encReg false 0b1001#4 src dest
  | .addcbImm5 imm dest => encImm5 false 0b1001#4 imm dest
  | .addcbImm16 imm dest => encImm16 false 0b1001#4 imm dest
  | .addcwReg src dest => encReg true 0b1001#4 src dest
  | .addcwImm5 imm dest => encImm5 true 0b1001#4 imm dest
  | .addcwImm16 imm dest => encImm16 true 0b1001#4 imm dest
  | .movbReg src dest => encReg false 0b1100#4 src dest
  | .movbImm5 imm dest => encImm5 false 0b1100#4 imm dest
  | .movbImm16 imm dest => encImm16 false 0b1100#4 imm dest
  | .movwReg src dest => encReg true 0b1100#4 src dest
  | .movwImm5 imm dest => encImm5 true 0b1100#4 imm dest
  | .movwImm16 imm dest => encImm16 true 0b1100#4 imm dest
  | .subcbReg src dest => encReg false 0b1101#4 src dest
  | .subcbImm5 imm dest => encImm5 false 0b1101#4 imm dest
  | .subcbImm16 imm dest => encImm16 false 0b1101#4 imm dest
  | .subcwReg src dest => encReg true 0b1101#4 src dest
  | .subcwImm5 imm dest => encImm5 true 0b1101#4 imm dest
  | .subcwImm16 imm dest => encImm16 true 0b1101#4 imm dest
  | .orbReg src dest => encReg false 0b1110#4 src dest
  | .orbImm5 imm dest => encImm5 false 0b1110#4 imm dest
  | .orbImm16 imm dest => encImm16 false 0b1110#4 imm dest
  | .orwReg src dest => encReg true 0b1110#4 src dest
  | .orwImm5 imm dest => encImm5 true 0b1110#4 imm dest
  | .orwImm16 imm dest => encImm16 true 0b1110#4 imm dest
  | .subbReg src dest => encReg false 0b1111#4 src dest
  | .subbImm5 imm dest => encImm5 false 0b1111#4 imm dest
  | .subbImm16 imm dest => encImm16 false 0b1111#4 imm dest
  | .subwReg src dest => encReg true 0b1111#4 src dest
  | .subwImm5 imm dest => encImm5 true 0b1111#4 imm dest
  | .subwImm16 imm dest => encImm16 true 0b1111#4 imm dest
  | .tbitReg offset src => encReg true 0b1011#4 offset src
  | .tbitImm5 pos src => encImm5 true 0b1011#4 pos src
  | .tbitImm16 pos src => encImm16 true 0b1011#4 pos src
  | .nop => encImm5 false 0b0001#4 0 0
  | .beq0b src disp => encCmpBranch false 0b00#2 src disp
  | .beq0w src disp => encCmpBranch true 0b00#2 src disp
  | .beq1b src disp => encCmpBranch false 0b01#2 src disp
  | .beq1w src disp => encCmpBranch true 0b01#2 src disp
  | .bne0b src disp => encCmpBranch false 0b10#2 src disp
  | .bne0w src disp => encCmpBranch true 0b10#2 src disp
  | .bne1b src disp => encCmpBranch false 0b11#2 src disp
  | .bne1w src disp => encCmpBranch true 0b11#2 src disp
  | .movd imm dest => encMovd imm dest
  | .mulsb src dest => encSpecial 0b0000#4 (regBits dest) (regBits src)
  | .mulsw src dest => encSpecial 0b0001#4 (regBits dest) (regBits src)
  | .muluw src dest => encSpecial 0b1111#4 (regBits dest) (encExt 0b00#2 (restrictedB3 src) (restrictedB0 src))
  | .movxb src dest => encSpecial 0b0100#4 (regBits dest) (regBits src)
  | .movzb src dest => encSpecial 0b0101#4 (regBits dest) (regBits src)
  | .push rcnt src => encSpecial 0b0110#4 (encCount false false rcnt) (regBits src)
  | .pop rcnt dest => encSpecial 0b0110#4 (encCount false true rcnt) (regBits dest)
  | .popretSmall rcnt dest => encSpecial 0b0110#4 (encCount true false rcnt) (regBits dest)
  | .popretLarge rcnt dest => encSpecial 0b0110#4 (encCount true true rcnt) (regBits dest)
  | .seq dest => encSpecial 0b0111#4 (condCode .eq) (regBits dest)
  | .sne dest => encSpecial 0b0111#4 (condCode .ne) (regBits dest)
  | .scs dest => encSpecial 0b0111#4 (condCode .cs) (regBits dest)
  | .scc dest => encSpecial 0b0111#4 (condCode .cc) (regBits dest)
  | .shi dest => encSpecial 0b0111#4 (condCode .hi) (regBits dest)
  | .sls dest => encSpecial 0b0111#4 (condCode .ls) (regBits dest)
  | .sgt dest => encSpecial 0b0111#4 (condCode .gt) (regBits dest)
  | .sle dest => encSpecial 0b0111#4 (condCode .le) (regBits dest)
  | .sfs dest => encSpecial 0b0111#4 (condCode .fs) (regBits dest)
  | .sfc dest => encSpecial 0b0111#4 (condCode .fc) (regBits dest)
  | .slo dest => encSpecial 0b0111#4 (condCode .lo) (regBits dest)
  | .shs dest => encSpecial 0b0111#4 (condCode .hs) (regBits dest)
  | .slt dest => encSpecial 0b0111#4 (condCode .lt) (regBits dest)
  | .sge dest => encSpecial 0b0111#4 (condCode .ge) (regBits dest)
  | .lpr src rproc => encSpecial 0b1000#4 rproc (regBits src)
  | .spr rproc dest => encSpecial 0b1001#4 rproc (regBits dest)
  | .beqDisp9 disp => encBranch9 (condCode .eq) disp
  | .beqDisp17 disp => encBranch17 false (condCode .eq) disp
  | .beqDisp21 disp => encBranch21 0b1010#4 (condCode .eq) disp
  | .bneDisp9 disp => encBranch9 (condCode .ne) disp
  | .bneDisp17 disp => encBranch17 false (condCode .ne) disp
  | .bneDisp21 disp => encBranch21 0b1010#4 (condCode .ne) disp
  | .bcsDisp9 disp => encBranch9 (condCode .cs) disp
  | .bcsDisp17 disp => encBranch17 false (condCode .cs) disp
  | .bcsDisp21 disp => encBranch21 0b1010#4 (condCode .cs) disp
  | .bccDisp9 disp => encBranch9 (condCode .cc) disp
  | .bccDisp17 disp => encBranch17 false (condCode .cc) disp
  | .bccDisp21 disp => encBranch21 0b1010#4 (condCode .cc) disp
  | .bhiDisp9 disp => encBranch9 (condCode .hi) disp
  | .bhiDisp17 disp => encBranch17 false (condCode .hi) disp
  | .bhiDisp21 disp => encBranch21 0b1010#4 (condCode .hi) disp
  | .blsDisp9 disp => encBranch9 (condCode .ls) disp
  | .blsDisp17 disp => encBranch17 false (condCode .ls) disp
  | .blsDisp21 disp => encBranch21 0b1010#4 (condCode .ls) disp
  | .bgtDisp9 disp => encBranch9 (condCode .gt) disp
  | .bgtDisp17 disp => encBranch17 false (condCode .gt) disp
  | .bgtDisp21 disp => encBranch21 0b1010#4 (condCode .gt) disp
  | .bleDisp9 disp => encBranch9 (condCode .le) disp
  | .bleDisp17 disp => encBranch17 false (condCode .le) disp
  | .bleDisp21 disp => encBranch21 0b1010#4 (condCode .le) disp
  | .bfsDisp9 disp => encBranch9 (condCode .fs) disp
  | .bfsDisp17 disp => encBranch17 false (condCode .fs) disp
  | .bfsDisp21 disp => encBranch21 0b1010#4 (condCode .fs) disp
  | .bfcDisp9 disp => encBranch9 (condCode .fc) disp
  | .bfcDisp17 disp => encBranch17 false (condCode .fc) disp
  | .bfcDisp21 disp => encBranch21 0b1010#4 (condCode .fc) disp
  | .bloDisp9 disp => encBranch9 (condCode .lo) disp
  | .bloDisp17 disp => encBranch17 false (condCode .lo) disp
  | .bloDisp21 disp => encBranch21 0b1010#4 (condCode .lo) disp
  | .bhsDisp9 disp => encBranch9 (condCode .hs) disp
  | .bhsDisp17 disp => encBranch17 false (condCode .hs) disp
  | .bhsDisp21 disp => encBranch21 0b1010#4 (condCode .hs) disp
  | .bltDisp9 disp => encBranch9 (condCode .lt) disp
  | .bltDisp17 disp => encBranch17 false (condCode .lt) disp
  | .bltDisp21 disp => encBranch21 0b1010#4 (condCode .lt) disp
  | .bgeDisp9 disp => encBranch9 (condCode .ge) disp
  | .bgeDisp17 disp => encBranch17 false (condCode .ge) disp
  | .bgeDisp21 disp => encBranch21 0b1010#4 (condCode .ge) disp
  | .brDisp9 disp => encBranch9 0b1110#4 disp
  | .brDisp17 disp => encBranch17 false 0b1110#4 disp
  | .brDisp21 disp => encBranch21 0b1010#4 0b1110#4 disp
  | .balSmall link disp => encBranch17 true (regBits link) disp
  | .balLarge link disp => encBranch21 0b1011#4 (regBits link) disp
  | .jeqSmall target => encJumpSmall false (condCode .eq) target
  | .jeqLarge target => encJumpLarge true (condCode .eq) target
  | .jneSmall target => encJumpSmall false (condCode .ne) target
  | .jneLarge target => encJumpLarge true (condCode .ne) target
  | .jcsSmall target => encJumpSmall false (condCode .cs) target
  | .jcsLarge target => encJumpLarge true (condCode .cs) target
  | .jccSmall target => encJumpSmall false (condCode .cc) target
  | .jccLarge target => encJumpLarge true (condCode .cc) target
  | .jhiSmall target => encJumpSmall false (condCode .hi) target
  | .jhiLarge target => encJumpLarge true (condCode .hi) target
  | .jlsSmall target => encJumpSmall false (condCode .ls) target
  | .jlsLarge target => encJumpLarge true (condCode .ls) target
  | .jgtSmall target => encJumpSmall false (condCode .gt) target
  | .jgtLarge target => encJumpLarge true (condCode .gt) target
  | .jleSmall target => encJumpSmall false (condCode .le) target
  | .jleLarge target => encJumpLarge true (condCode .le) target
  | .jfsSmall target => encJumpSmall false (condCode .fs) target
  | .jfsLarge target => encJumpLarge true (condCode .fs) target
  | .jfcSmall target => encJumpSmall false (condCode .fc) target
  | .jfcLarge target => encJumpLarge true (condCode .fc) target
  | .jloSmall target => encJumpSmall false (condCode .lo) target
  | .jloLarge target => encJumpLarge true (condCode .lo) target
  | .jhsSmall target => encJumpSmall false (condCode .hs) target
  | .jhsLarge target => encJumpLarge true (condCode .hs) target
  | .jltSmall target => encJumpSmall false (condCode .lt) target
  | .jltLarge target => encJumpLarge true (condCode .lt) target
  | .jgeSmall target => encJumpSmall false (condCode .ge) target
  | .jgeLarge target => encJumpLarge true (condCode .ge) target
  | .jumpSmall target => encJumpSmall false 0b1110#4 target
  | .jumpLarge target => encJumpLarge true 0b1110#4 target
  | .jalSmall link target => encJumpSmall true (regBits link) target
  | .jalLarge link target => encJumpLarge false (regBits link) target
  | .retx => encSpecial 0b1100#4 0b1111#4 0b1111#4
  | .excp vector => encSpecial 0b1101#4 0b1111#4 vector
  | .di => encSpecial 0b1110#4 0b1110#4 0b1111#4
  | .ei => encSpecial 0b1110#4 0b1111#4 0b1111#4
  | .loadm rcnt => encSpecial 0b1111#4 (encCount false false rcnt) 0b0010#4
  | .storm rcnt => encSpecial 0b1111#4 (encCount false true rcnt) 0b0010#4
  | .eiwait => encSpecial 0b1111#4 0b1111#4 0b0011#4
  | .wait => encSpecial 0b1111#4 0b1111#4 0b1111#4
  | .loadbDisp5 disp base dest => encDisp5 false false dest disp base
  | .loadbDisp18 disp base dest => encDisp18 false false dest disp base
  | .loadbFar disp base dest => encFar false false dest disp base
  | .loadbAbs addr dest => encAbs false false dest addr
  | .loadwDisp5 disp base dest => encDisp5 false true dest disp base
  | .loadwDisp18 disp base dest => encDisp18 false true dest disp base
  | .loadwFar disp base dest => encFar false true dest disp base
  | .loadwAbs addr dest => encAbs false true dest addr
  | .storbDisp5 src disp base => encDisp5 true false src disp base
  | .storbDisp18 src disp base => encDisp18 true false src disp base
  | .storbFar src disp base => encFar true false src disp base
  | .storbAbs src addr => encAbs true false src addr
  | .storwDisp5 src disp base => encDisp5 true true src disp base
  | .storwDisp18 src disp base => encDisp18 true true src disp base
  | .storwFar src disp base => encFar true true src disp base
  | .storwAbs src addr => encAbs true true src addr
  | .cbitbBase pos base => encBitsBase false 0b00#2 pos base
  | .cbitbDisp16 pos disp base => encBitsDisp16 false 0b00#2 pos disp base
  | .cbitbAbs pos addr => encBitsAbs false 0b00#2 pos addr
  | .cbitwBase pos base => encBitsBase true 0b00#2 pos base
  | .cbitwDisp16 pos disp base => encBitsDisp16 true 0b00#2 pos disp base
  | .cbitwAbs pos addr => encBitsAbs true 0b00#2 pos addr
  | .sbitbBase pos base => encBitsBase false 0b01#2 pos base
  | .sbitbDisp16 pos disp base => encBitsDisp16 false 0b01#2 pos disp base
  | .sbitbAbs pos addr => encBitsAbs false 0b01#2 pos addr
  | .sbitwBase pos base => encBitsBase true 0b01#2 pos base
  | .sbitwDisp16 pos disp base => encBitsDisp16 true 0b01#2 pos disp base
  | .sbitwAbs pos addr => encBitsAbs true 0b01#2 pos addr
  | .tbitbBase pos base => encBitsBase false 0b10#2 pos base
  | .tbitbDisp16 pos disp base => encBitsDisp16 false 0b10#2 pos disp base
  | .tbitbAbs pos addr => encBitsAbs false 0b10#2 pos addr
  | .tbitwBase pos base => encBitsBase true 0b10#2 pos base
  | .tbitwDisp16 pos disp base => encBitsDisp16 true 0b10#2 pos disp base
  | .tbitwAbs pos addr => encBitsAbs true 0b10#2 pos addr
  | .storbImmBase imm base => encBitsBase false 0b11#2 imm base
  | .storbImmDisp16 imm disp base => encBitsDisp16 false 0b11#2 imm disp base
  | .storbImmAbs imm addr => encBitsAbs false 0b11#2 imm addr
  | .storwImmBase imm base => encBitsBase true 0b11#2 imm base
  | .storwImmDisp16 imm disp base => encBitsDisp16 true 0b11#2 imm disp base
  | .storwImmAbs imm addr => encBitsAbs true 0b11#2 imm addr

/-- The bytes of an instruction in memory order (20_memory.md R62). -/
def encodeBytes (i : Instr) : List Byte := (encode i).flatMap bytesOfWord

end Sys2Proof
end

