-- ==== Sys2Proof/Config.lean ====
section
/-! DEFINITION. The free values: constants without a body, so that nothing can be proved of what they
are. The machine applies each to the counter `fresh` of its state, which the use advances; a claim
that holds of the model holds whatever they are (93_implementation_defined.md, treatment `any value`;
notes/assumptions/3.md). -/

namespace Sys2Proof

/-- A 16-bit value the spec leaves open (93_implementation_defined.md U1, U2, U5, U7, U9, U10, U12). -/
opaque Config.freeWord : Nat → Word

/-- An 8-bit value the spec leaves open (93_implementation_defined.md U5, U6, U9; 92_eei_decisions.md D5). -/
opaque Config.freeByte : Nat → Byte

/-- A bit the spec leaves open (93_implementation_defined.md U6; the old-or-new choice of
92_eei_decisions.md D6). -/
opaque Config.freeBit : Nat → Bool

/-- A 21-bit value the spec leaves open (93_implementation_defined.md U10, U12). -/
opaque Config.freeAddr : Nat → Addr

end Sys2Proof
end

