-- ==== Sys2Proof/Machine/State.lean ====
section
/-! DEFINITION. The state of the machine as plain data: every register, the memory, the hidden state the
ISA exposes (10_state.md), the levels of the core's input lines (00_scope.md R7, 92_eei_decisions.md
D13, D18) and the model's own bookkeeping (INVENTORY.md, '## State'). -/

namespace Sys2Proof.Machine

/-- Memory contents: (address, byte) pairs, addresses strictly rising, no byte equal to what an
unlisted address reads as (20_memory.md R60; notes/assumptions/2.md). -/
abbrev Memory := List Host.Cell

/-- The operating states visible between steps; Processing Exception is the atomic entry sequence
(60_exceptions.md R289). -/
inductive OpState where
  /-- The reset input is, or was just, active. -/
  | reset
  /-- Executing Instructions. -/
  | executing
  /-- Waiting for Interrupt, entered by WAIT and EIWAIT. -/
  | waiting
deriving DecidableEq, Repr

/-- The ten exceptions (60_exceptions.md R251). -/
inductive Exception where
  | nmi | svc | dvz | flg | bpt | trc | und | dbg | ise | int
deriving DecidableEq, Repr

/-- The kind of a data access, for the compare-address condition (60_exceptions.md R281). -/
inductive AccessKind where
  | read | write
deriving DecidableEq, Repr

/-- The interrupt request lines (60_exceptions.md R254). -/
structure Requests where
  nmi : Bool
  int : Bool
  ise : Bool
deriving DecidableEq, Repr

/-- The levels of the core's inputs during one step (92_eei_decisions.md D13, D14, D18). -/
structure Pins where
  /-- The reset input, sampled at the boundary (60_exceptions.md R272). -/
  reset : Bool
  /-- The BRKL tag with which the instruction about to start was fetched (60_exceptions.md R283). -/
  tag : Bool
  /-- Requests sampled at the instruction boundary, and in the wait state (60_exceptions.md R270, R272). -/
  atBoundary : Requests
  /-- Requests that arrive while the instruction executes; only a multiply reacts to them
  (60_exceptions.md R266). -/
  duringMul : Requests
  /-- The byte the ICU answers in an acknowledge cycle (60_exceptions.md R255). -/
  icuVector : Byte
  /-- A reset that arrives inside the step's instruction (70_reset_and_hazards.md R301). -/
  resetInside : Bool
deriving DecidableEq, Repr

/-- No request. -/
def Requests.quiet : Requests := ⟨false, false, false⟩

/-- No input active: the defaults of 92_eei_decisions.md. -/
def Pins.quiet : Pins := ⟨false, false, .quiet, .quiet, 0, false⟩

/-- What stands at an address of the platform (92_eei_decisions.md D18). -/
inductive RegionKind where
  | ram | rom | device | empty
deriving DecidableEq, Repr

/-- A range of addresses of one kind: `size` bytes from `base`. -/
structure Region where
  base : Nat
  size : Nat
  kind : RegionKind
deriving DecidableEq, Repr

/-- The parameters 92_eei_decisions.md leaves open, fixed for a run. -/
structure Platform where
  /-- MemMap: the first region that holds an address decides; an address in none is RAM (D5, D18). -/
  map : List Region
  /-- StorImm4Signed (D10). -/
  storImm4Signed : Bool
  /-- PcMatchUsesCBE (D17). -/
  pcMatchUsesCbe : Bool
deriving DecidableEq, Repr

/-- The whole state. -/
structure State where
  /-- R0 to R15 (10_state.md R21). -/
  regs : Vector Word 16
  /-- PC (10_state.md R26). -/
  pc : Addr
  /-- PSR (10_state.md R28). -/
  psr : Word
  /-- ISP (10_state.md R37). -/
  isp : Addr
  /-- INTBASE: INTBASEH in bits 20:16, INTBASEL in bits 15:0 (10_state.md R38). -/
  intbase : Addr
  /-- CFG (10_state.md R39). -/
  cfg : Word
  /-- DCR (10_state.md R40, R41). -/
  dcr : Word
  /-- DSR (10_state.md R42). -/
  dsr : Word
  /-- CAR: CARH in bits 20:16, CARL in bits 15:0 (10_state.md R43). -/
  car : Addr
  /-- DBG-pending (10_state.md R45 (a)). -/
  dbgPending : Bool
  /-- Operating state (10_state.md R45 (c)). -/
  opState : OpState
  /-- Memory contents (10_state.md R46). -/
  mem : Memory
  /-- Bytes stored to since the last serializing operation, each with its contents before: a fetch may
  still deliver these (10_state.md R45 (e); 92_eei_decisions.md D6). -/
  stale : List Host.Cell
  /-- Input levels of this step (10_state.md R45 (b), (d)). -/
  pins : Pins
  /-- Input levels of the coming steps; after the last the inputs are quiet (notes/assumptions/4.md). -/
  pinsAhead : List Pins
  /-- The platform (notes/assumptions/5.md). -/
  platform : Platform
  /-- MODEL's own: addresses of the memory bytes this step has stored (notes/assumptions/6.md). -/
  written : List Nat
  /-- MODEL's own: how many free values have been used (notes/assumptions/3.md). -/
  fresh : Nat
deriving DecidableEq, Repr

/-- No step of this machine stops with a fault: every error the spec names is an exception that is
taken, and there is no halted or error state (60_exceptions.md R250, R289). -/
inductive Fault where
deriving DecidableEq, Repr

/-- Why a step has no meaning. -/
inductive Refusal where
  /-- Raised by `exec` for an instruction without a meaning (none is left). Safe: nothing follows. -/
  | notModelled (mnemonic : String)
  /-- Raised by MOVD, MULSW, MULUW with pair 15, by taken Jcond, JUMP, BAL and JAL of the large model
  with pair 14 or 15, and by JAL of the large model with overlapping, unequal pairs: the spec names no
  effect and asks the model to refuse (93_implementation_defined.md U11). Safe: nothing follows. -/
  | excludedRegisterPair
deriving DecidableEq, Repr

/-- The platform defaults of 92_eei_decisions.md: all RAM, both parameters false. -/
def Platform.default : Platform := ⟨[], false, false⟩

/-- The machine right after reset (10_state.md R55; 70_reset_and_hazards.md R302). PC, PSR[11:0], CFG.ED,
the DCR fields, DSR[3:0], DBG-pending and the operating state are the spec's values; every register the
spec leaves unpredictable is 0 (DESIGN CHOICE, unsafe: notes/assumptions/1.md). -/
def State.reset : State where
  regs := Vector.replicate 16 0
  pc := 0
  psr := 0x0200
  isp := 0
  intbase := 0
  cfg := 0
  dcr := 0
  dsr := 0
  car := 0
  dbgPending := false
  opState := .executing
  mem := []
  stale := []
  pins := Pins.quiet
  pinsAhead := []
  platform := Platform.default
  written := []
  fresh := 0

end Sys2Proof.Machine
end

