-- ==== Sys2Proof/Machine/Ops.lean ====
section
/-! DEFINITION. The named operations over registers, memory, the debug unit and the exception mechanism:
10_state.md, 20_memory.md, 60_exceptions.md, 70_reset_and_hazards.md. -/

namespace Sys2Proof.Machine

/-! ## Bits -/

/-- w with bit k set to b. -/
def withBit (w : BitVec n) (k : Nat) (b : Bool) : BitVec n :=
  if b then w ||| BitVec.twoPow n k else w &&& ~~~BitVec.twoPow n k

/-- a with bit 0 cleared, as every write of PC does (00_scope.md R9, R10). -/
def evenAddr (a : Addr) : Addr := a &&& 0x1FFFFE#21

/-! ## Registers -/

/-- R[r] (00_scope.md R9; 10_state.md R21: no register is hardwired). -/
def State.reg (s : State) (r : Reg) : Word := s.regs[r]

/-- R[r] <- v, all 16 bits (00_scope.md R9). -/
def State.setReg (s : State) (r : Reg) (v : Word) : State := { s with regs := s.regs.set r v }

/-- pc <- a, bit 0 forced to 0 (00_scope.md R9). -/
def State.setPc (s : State) (a : Addr) : State := { s with pc := evenAddr a }

/-- pc <- next, for an instruction of len bytes (10_state.md R27; 92_eei_decisions.md D2). -/
def State.advance (s : State) (len : Addr) : State := s.setPc (s.pc + len)

/-- All of PSR. -/
def State.setPsr (s : State) (v : Word) : State := { s with psr := v }

/-- ISP. -/
def State.setIsp (s : State) (a : Addr) : State := { s with isp := a }

/-- INTBASE. -/
def State.setIntbase (s : State) (a : Addr) : State := { s with intbase := a }

/-- CFG. -/
def State.setCfg (s : State) (v : Word) : State := { s with cfg := v }

/-- DCR. -/
def State.setDcr (s : State) (v : Word) : State := { s with dcr := v }

/-- DSR. -/
def State.setDsr (s : State) (v : Word) : State := { s with dsr := v }

/-- CAR. -/
def State.setCar (s : State) (a : Addr) : State := { s with car := a }

/-- DBG-pending. -/
def State.setDbgPending (s : State) (b : Bool) : State := { s with dbgPending := b }

/-- The operating state. -/
def State.setOpState (s : State) (o : OpState) : State := { s with opState := o }

/-- The marks of recently stored bytes. -/
def State.setStale (s : State) (m : List Host.Cell) : State := { s with stale := m }

/-- The counter of used free values. -/
def State.setFresh (s : State) (n : Nat) : State := { s with fresh := n }

/-- PSR.C, bit 0 (10_state.md R29). -/
def psrC : Nat := 0
/-- PSR.T, bit 1 (10_state.md R30). -/
def psrT : Nat := 1
/-- PSR.L, bit 2 (10_state.md R31). -/
def psrL : Nat := 2
/-- PSR.F, bit 5 (10_state.md R32). -/
def psrF : Nat := 5
/-- PSR.Z, bit 6 (10_state.md R33). -/
def psrZ : Nat := 6
/-- PSR.N, bit 7 (10_state.md R33). -/
def psrN : Nat := 7
/-- PSR.E, bit 9 (10_state.md R34). -/
def psrE : Nat := 9
/-- PSR.P, bit 10 (10_state.md R35). -/
def psrP : Nat := 10
/-- PSR.I, bit 11 (10_state.md R34). -/
def psrI : Nat := 11

/-- A bit of PSR. -/
def State.flag (s : State) (k : Nat) : Bool := s.psr.getLsbD k

/-- PSR.k <- b, every other bit of PSR kept (10_state.md R28). -/
def State.setFlag (s : State) (k : Nat) (b : Bool) : State := s.setPsr (withBit s.psr k b)

/-- CFG.ED, bit 8 (10_state.md R39). -/
def State.cfgEd (s : State) : Bool := s.cfg.getLsbD 8

/-- DCR.PC, bit 4 (10_state.md R41). -/
def dcrPc : Nat := 4
/-- DCR.CWR, bit 5 (10_state.md R41). -/
def dcrCwr : Nat := 5
/-- DCR.CRD, bit 6 (10_state.md R41). -/
def dcrCrd : Nat := 6
/-- DCR.DEN, bit 7 (10_state.md R41). -/
def dcrDen : Nat := 7
/-- DCR.EFB, bit 8 (10_state.md R41). -/
def dcrEfb : Nat := 8
/-- DCR.ABPT, bit 10 (10_state.md R41). -/
def dcrAbpt : Nat := 10
/-- DCR.ATRC, bit 11 (10_state.md R41). -/
def dcrAtrc : Nat := 11
/-- DCR.ADBG, bit 12 (10_state.md R41). -/
def dcrAdbg : Nat := 12
/-- DCR.AISE, bit 13 (10_state.md R41). -/
def dcrAise : Nat := 13
/-- DCR.DBGL, bit 15 (10_state.md R41). -/
def dcrDbgl : Nat := 15
/-- DSR.BPC, bit 0 (10_state.md R42). -/
def dsrBpc : Nat := 0
/-- DSR.BWR, bit 1 (10_state.md R42). -/
def dsrBwr : Nat := 1
/-- DSR.BRD, bit 2 (10_state.md R42). -/
def dsrBrd : Nat := 2
/-- DSR.EXF, bit 3 (10_state.md R42). -/
def dsrExf : Nat := 3

/-! ## Free values (notes/assumptions/3.md) -/

/-- The next free word, and the state that has used it. -/
def State.drawWord (s : State) : Word × State := (Config.freeWord s.fresh, s.setFresh (s.fresh + 1))

/-- The next free byte, and the state that has used it. -/
def State.drawByte (s : State) : Byte × State := (Config.freeByte s.fresh, s.setFresh (s.fresh + 1))

/-- The next free bit, and the state that has used it. -/
def State.drawBit (s : State) : Bool × State := (Config.freeBit s.fresh, s.setFresh (s.fresh + 1))

/-- The next free address, and the state that has used it. -/
def State.drawAddr (s : State) : Addr × State := (Config.freeAddr s.fresh, s.setFresh (s.fresh + 1))

/-! ## Memory contents -/

/-- What an address that memory does not list reads as (DESIGN CHOICE, unsafe: notes/assumptions/2.md). -/
def unlistedByte : Byte := 0

/-- The byte memory holds at an address. -/
def memRead (m : Memory) (a : Nat) : Byte :=
  match m with
  | [] => unlistedByte
  | c :: rest => if c.1 = a then c.2 else memRead rest a

/-- Memory with byte v at address a, in canonical form again. -/
def memWrite (m : Memory) (a : Nat) (v : Byte) : Memory :=
  match m with
  | [] => if v = unlistedByte then [] else [(a, v)]
  | c :: rest =>
    if a < c.1 then
      if v = unlistedByte then c :: rest else (a, v) :: c :: rest
    else if c.1 = a then
      if v = unlistedByte then rest else (a, v) :: rest
    else c :: memWrite rest a v

/-- Every address of m is above lo, below 2^21 and strictly rising, and no byte is the unlisted one. -/
def memWfFrom (lo : Option Nat) (m : Memory) : Bool :=
  match m with
  | [] => true
  | c :: rest =>
    (match lo with
      | none => true
      | some b => decide (b < c.1)) &&
    decide (c.1 < 2 ^ 21) && c.2 != unlistedByte && memWfFrom (some c.1) rest

/-- The canonical form of memory holds. -/
def Memory.wf (m : Memory) : Bool := memWfFrom none m

/-- What stands at an address: the first region that holds it, RAM where none does (92_eei_decisions.md
D5, D18). -/
def kindIn (regions : List Region) (a : Nat) : RegionKind :=
  match regions with
  | [] => .ram
  | r :: rest => if r.base ≤ a ∧ a < r.base + r.size then r.kind else kindIn rest a

/-- What stands at an address of this machine's platform. -/
def State.kindAt (s : State) (a : Addr) : RegionKind := kindIn s.platform.map a.toNat

/-- The byte recorded for a marked address (92_eei_decisions.md D6). -/
def markOf (marks : List Host.Cell) (a : Nat) : Option Byte :=
  match marks with
  | [] => none
  | c :: rest => if c.1 = a then some c.2 else markOf rest a

/-- Mark an address with its contents before the store, unless it is marked already: the mark keeps what
the byte held at the last serializing operation (92_eei_decisions.md D6; notes/assumptions/9.md). -/
def addMark (marks : List Host.Cell) (a : Nat) (old : Byte) : List Host.Cell :=
  match markOf marks a with
  | some _ => marks
  | none => (a, old) :: marks

/-- A byte of RAM or ROM; a read of a device or of an empty address has any value (20_memory.md R70,
R74; 92_eei_decisions.md D5; notes/assumptions/26.md). -/
def State.loadByte (s : State) (a : Addr) : Byte × State :=
  match s.kindAt a with
  | .ram => (memRead s.mem a.toNat, s)
  | .rom => (memRead s.mem a.toNat, s)
  | .device => s.drawByte
  | .empty => s.drawByte

/-- Store a byte in RAM and mark it; elsewhere no memory byte changes (20_memory.md R64, R70, R77). -/
def State.storeByte (s : State) (a : Addr) (v : Byte) : State :=
  match s.kindAt a with
  | .ram =>
    { s with
      mem := memWrite s.mem a.toNat v
      stale := addMark s.stale a.toNat (memRead s.mem a.toNat)
      written := a.toNat :: s.written }
  | .rom => s
  | .device => s
  | .empty => s

/-- Everything written so far is visible to later fetches (20_memory.md R78). -/
def State.serialize (s : State) : State := s.setStale []

/-! ## The compare-address condition (60_exceptions.md R280, R281) -/

/-- The DCR bit that enables comparison for a kind of access (10_state.md R41). -/
def compareEnable (k : AccessKind) : Nat :=
  match k with
  | .read => dcrCrd
  | .write => dcrCwr

/-- The DSR bit that records a match of a kind of access (10_state.md R42). -/
def compareStatus (k : AccessKind) : Nat :=
  match k with
  | .read => dsrBrd
  | .write => dsrBwr

/-- An access to byte b meets the enabled compare-address condition (60_exceptions.md R281). -/
def State.compareMatches (s : State) (k : AccessKind) (b : Addr) : Bool :=
  s.dcr.getLsbD dcrDen && !s.dcr.getLsbD dcrPc && s.dcr.getLsbD (compareEnable k)
    && b.extractLsb' 1 20 == s.car.extractLsb' 1 20 && s.dcr.getLsbD (if b.getLsbD 0 then 1 else 0)

/-- A match found: DBG is pending, DSR has the cause, DCR.DEN is cleared (60_exceptions.md R281, R282;
92_eei_decisions.md D15). -/
def State.recordMatch (s : State) (status : Nat) : State :=
  ((s.setDbgPending true).setDsr (withBit s.dsr status true)).setDcr (withBit s.dcr dcrDen false)

/-- Compare the address of a data access (60_exceptions.md R281). -/
def State.noteAccess (s : State) (k : AccessKind) (b : Addr) : State :=
  if s.compareMatches k b then s.recordMatch (compareStatus k) else s

/-! ## MemRead and MemWrite (20_memory.md R63, R64) -/

/-- MemRead(a, 1). -/
def State.readByte (s : State) (a : Addr) : Byte × State :=
  ((s.loadByte a).1, (s.loadByte a).2.noteAccess .read a)

/-- MemRead(a, 2): low byte at a, high byte at trunc_21(a + 1) (20_memory.md R63; 92_eei_decisions.md D3). -/
def State.readWord (s : State) (a : Addr) : Word × State :=
  let lo := s.readByte a
  let hi := lo.2.readByte (a + 1)
  (hi.1 ++ lo.1, hi.2)

/-- MemWrite(a, 1, v). -/
def State.writeByte (s : State) (a : Addr) (v : Byte) : State := (s.storeByte a v).noteAccess .write a

/-- MemWrite(a, 2, v): low byte at a, high byte at trunc_21(a + 1) (20_memory.md R64). -/
def State.writeWord (s : State) (a : Addr) (v : Word) : State :=
  (s.writeByte a (v.extractLsb' 0 8)).writeByte (a + 1) (v.extractLsb' 8 8)

/-! ## Taking an exception (60_exceptions.md R262 to R265) -/

/-- The vector number; INT takes the byte of the acknowledge cycle (60_exceptions.md R251, R255; TRC:
92_eei_decisions.md D8; bytes outside 16..127: 93_implementation_defined.md U8). -/
def vectorOf (x : Exception) (icu : Byte) : Nat :=
  match x with
  | .nmi => 1
  | .svc => 5
  | .dvz => 6
  | .flg => 7
  | .bpt => 8
  | .trc => 9
  | .und => 10
  | .dbg => 14
  | .ise => 15
  | .int => icu.toNat

/-- The PSR that is saved: TRC clears P first (60_exceptions.md R259, R265). -/
def psrToSave (x : Exception) (psr : Word) : Word :=
  match x with
  | .trc => withBit psr psrP false
  | .nmi | .svc | .dvz | .flg | .bpt | .und | .dbg | .ise | .int => psr

/-- The PSR after saving: P and T cleared, and I for interrupts and DBG (60_exceptions.md R265). -/
def psrAfterSave (x : Exception) (psr : Word) : Word :=
  match x with
  | .nmi | .int | .ise | .dbg => withBit (withBit (withBit psr psrI false) psrP false) psrT false
  | .svc | .dvz | .flg | .bpt | .und | .trc => withBit (withBit psr psrP false) psrT false

/-- The address of the acknowledge read, where the exception makes one (20_memory.md R71;
60_exceptions.md R263). -/
def acknowledgeAt (x : Exception) (dcr : Word) : Option Addr :=
  match x with
  | .int => some 0x00FE00#21
  | .nmi => some 0x00FF00#21
  | .ise => some 0x00FC00#21
  | .dbg => if dcr.getLsbD dcrAdbg then some 0x00FC02#21 else none
  | .trc => if dcr.getLsbD dcrAtrc then some 0x00FC0C#21 else none
  | .bpt => if dcr.getLsbD dcrAbpt then some 0x00FC0E#21 else none
  | .svc | .dvz | .flg | .und => none

/-- The exception uses INTBASE = 0 and 32-bit entries (60_exceptions.md R264, R285). -/
def usesAlternate (x : Exception) (dcr : Word) : Bool :=
  match x with
  | .ise => dcr.getLsbD dcrAise
  | .dbg => dcr.getLsbD dcrAdbg
  | .trc => dcr.getLsbD dcrAtrc
  | .bpt => dcr.getLsbD dcrAbpt
  | .nmi | .int | .svc | .dvz | .flg | .und => false

/-- The interrupt stack pointer moved by d: 16-bit arithmetic, bits 20:16 stay 0 (10_state.md R37;
20_memory.md R73; 92_eei_decisions.md D4). -/
def ispPlus (isp : Addr) (d : Word) : Addr := (isp.setWidth 16 + d).setWidth 21

/-- The high word of the frame: PC[20:17] in bits 15:12, PSR[11:0] below (60_exceptions.md R273). -/
def frameHigh (spc : Addr) (psr : Word) : Word := spc.extractLsb' 17 4 ++ psr.extractLsb' 0 12

/-- Where the frame goes: ISP moved down 4 (60_exceptions.md R262 step 2; 92_eei_decisions.md D4). -/
def State.frameBase (s : State) : Addr := ispPlus s.isp 0xFFFC#16

/-- Steps 2 and 3 of the entry: ISP moves down 4 and the frame is written, low word first
(60_exceptions.md R262, R273; 92_eei_decisions.md D12). -/
def State.pushFrame (s : State) (spc : Addr) : State :=
  ((s.setIsp s.frameBase).writeWord s.frameBase (spc.extractLsb' 1 16)).writeWord
    (ispPlus s.frameBase 2#16) (frameHigh spc s.psr)

/-- Step 5: DBG clears DBG-pending; for a tagged instruction it sets DSR.EXF and clears DCR.EFB
(60_exceptions.md R262, R283). -/
def State.settleDebug (s : State) (x : Exception) : State :=
  match x with
  | .dbg =>
    let s1 := s.setDbgPending false
    if s1.dcr.getLsbD dcrEfb && s1.pins.tag then
      (s1.setDsr (withBit s1.dsr dsrExf true)).setDcr (withBit s1.dcr dcrEfb false)
    else s1
  | .nmi | .svc | .dvz | .flg | .bpt | .und | .trc | .ise | .int => s

/-- Step 6, the acknowledge read; the ICU answers that of INT, so no memory byte is read there
(60_exceptions.md R255, R263). -/
def State.acknowledge (s : State) (x : Exception) : State :=
  match acknowledgeAt x s.dcr with
  | none => s
  | some a =>
    match x with
    | .int => s.noteAccess .read a
    | .nmi | .svc | .dvz | .flg | .bpt | .und | .trc | .ise | .dbg => (s.readByte a).2

/-- Entries are 32 bits wide (60_exceptions.md R264). -/
def State.wideEntry (s : State) (x : Exception) : Bool := usesAlternate x s.dcr || s.cfgEd

/-- The address of the dispatch entry (10_state.md R38; 60_exceptions.md R264; 92_eei_decisions.md D2). -/
def State.entryAddress (s : State) (x : Exception) : Addr :=
  let v : Addr := BitVec.ofNat 21 (vectorOf x s.pins.icuVector)
  if usesAlternate x s.dcr then v * 4#21
  else if s.cfgEd then s.intbase + v * 4#21
  else (0#5 ++ s.intbase.extractLsb' 0 16) + v * 2#21

/-- The handler address of a dispatch entry (60_exceptions.md R264). -/
def handlerOf (hi lo : Word) : Addr := hi.extractLsb' 0 4 ++ lo ++ 0#1

/-- Step 7: read the dispatch entry; answers the handler's address (60_exceptions.md R264). -/
def State.readHandler (s : State) (x : Exception) : Addr × State :=
  let a := s.entryAddress x
  let lo := s.readWord a
  if s.wideEntry x then
    let hi := lo.2.readWord (a + 2#21)
    (handlerOf hi.1 lo.1, hi.2)
  else (handlerOf 0 lo.1, lo.2)

/-- Steps 1 to 5: what is saved and what the status becomes (60_exceptions.md R262, R265). -/
def State.saveContext (s : State) (x : Exception) (spc : Addr) : State :=
  let s1 := s.setPsr (psrToSave x s.psr)
  let s2 := s1.pushFrame spc
  (s2.setPsr (psrAfterSave x s2.psr)).settleDebug x

/-- TAKING AN EXCEPTION: the one entry sequence of all ten, with spc the PC to save
(60_exceptions.md R262). -/
def State.takeException (s : State) (x : Exception) (spc : Addr) : State :=
  let s1 := (s.saveContext x spc).acknowledge x
  let h := s1.readHandler x
  ((h.2.setPc h.1).setOpState .executing).serialize

/-- The bits of PSR that hold state and that LPR and RETX write: 11:0 without the constant 3, 4, 8
(10_state.md R28, R36). -/
def psrDefined : Word := 0x0EE7#16

/-- Return from exception: pop PC[16:1], then PC[20:17] and PSR[11:0]; PSR[15:12] stay
(44_jumps_linkage.md R204). -/
def State.returnFromException (s : State) : State :=
  let lo := s.readWord (ispPlus s.isp 0#16)
  let hi := lo.2.readWord (ispPlus s.isp 2#16)
  let s1 := hi.2.setIsp (ispPlus s.isp 4#16)
  let s2 := s1.setPsr ((s1.psr &&& 0xF000#16) ||| (hi.1 &&& psrDefined))
  (s2.setPc (hi.1.extractLsb' 12 4 ++ lo.1 ++ 0#1)).serialize

/-- The interrupt that is accepted for the requests: NMI, then INT with E and I set, then ISE
(60_exceptions.md R255 to R257, R268, R270). -/
def State.acceptedInterrupt (s : State) (q : Requests) : Option Exception :=
  if q.nmi then some .nmi
  else if q.int && s.flag psrE && s.flag psrI then some .int
  else if q.ise then some .ise
  else none

/-- An interrupt that suspends a multiply: PSR.P and DBG-pending are cleared, then the entry saves the
multiply's own address (60_exceptions.md R266). -/
def State.suspendMultiply (s : State) (x : Exception) : State :=
  ((s.setFlag psrP false).setDbgPending false).takeException x s.pc

/-! ## The reset event (70_reset_and_hazards.md R300 to R302) -/

/-- Reset with R0 and R1 receiving r0 and r1; what the spec leaves unpredictable is free, bits that are
structurally constant keep their constants, memory stays (70_reset_and_hazards.md R300, R302;
93_implementation_defined.md U10). -/
def State.resetInto (s : State) (r0 r1 : Word) : State :=
  let f := fun k => Config.freeWord (s.fresh + k)
  { s with
    regs := #v[r0, r1, f 0, f 1, f 2, f 3, f 4, f 5, f 6, f 7, f 8, f 9, f 10, f 11, f 12, f 13]
    pc := 0
    psr := (f 14 &&& 0xF000#16) ||| 0x0200#16
    isp := (f 15 &&& 0xFFFE#16).setWidth 21
    intbase := evenAddr (Config.freeAddr (s.fresh + 16))
    cfg := f 17 &&& 0xFEFF#16
    dcr := f 18 &&& 0x420C#16
    dsr := f 19 &&& 0xFFF0#16
    car := Config.freeAddr (s.fresh + 20)
    dbgPending := false
    opState := .reset
    stale := []
    fresh := s.fresh + 21 }

/-- Reset at an instruction boundary: R0 and R1 receive PC and PSR (70_reset_and_hazards.md R300). -/
def State.resetEvent (s : State) : State :=
  s.resetInto (s.pc.extractLsb' 1 16) (frameHigh s.pc s.psr)

/-- Every listed byte takes a free value. -/
def State.scrambleBytes (as : List Nat) (s : State) : State :=
  match as with
  | [] => s
  | a :: rest =>
    State.scrambleBytes rest { s with mem := memWrite s.mem a (Config.freeByte s.fresh), fresh := s.fresh + 1 }

end Sys2Proof.Machine
end

