-- ==== Sys2Proof/Machine/Operands.lean ====
section
/-! DEFINITION. The operand forms: byte and word registers, immediates, restricted registers, register
pairs, effective addresses, branch and jump targets, link values, runs of registers and words, and the
processor registers (10_state.md, 30_encoding.md, 43_bits.md R181, 44_jumps_linkage.md,
45_procreg_loadstore_misc.md R222 to R229). -/

namespace Sys2Proof.Machine

/-! ## Registers and immediates -/

/-- R[r][7:0] (10_state.md R22). -/
def State.regByte (s : State) (r : Reg) : Byte := (s.reg r).extractLsb' 0 8

/-- R[r][7:0] <- v; the high byte stays (10_state.md R22). -/
def State.setRegByte (s : State) (r : Reg) (v : Byte) : State :=
  s.setReg r ((s.reg r).extractLsb' 8 8 ++ v)

/-- The general register a restricted field names: 8*b3 + b0 (10_state.md R24). -/
def restrictedReg (r : Restricted) : Reg :=
  match r with
  | .r0 => 0
  | .r1 => 1
  | .r8 => 8
  | .r9 => 9

/-- The higher register of the pair named by r; used for r below 15 only (10_state.md R25;
93_implementation_defined.md U11). -/
def pairHigh (r : Reg) : Reg := r + 1

/-- The short immediate, sign-extended (30_encoding.md R95). -/
def shortImm (imm : BitVec 5) : Word := imm.signExtend 16

/-- The low byte of an immediate, for a byte operation (30_encoding.md R95, R96). -/
def immByte (imm : Word) : Byte := imm.extractLsb' 0 8

/-- The 4-bit immediate of STORB, zero-extended; sign-extended where the platform parameter says so
(45_procreg_loadstore_misc.md R234; 92_eei_decisions.md D10). -/
def State.imm4Byte (s : State) (imm : BitVec 4) : Byte :=
  if s.platform.storImm4Signed then imm.signExtend 8 else imm.setWidth 8

/-- The 4-bit immediate of STORW (45_procreg_loadstore_misc.md R235; 92_eei_decisions.md D10). -/
def State.imm4Word (s : State) (imm : BitVec 4) : Word :=
  if s.platform.storImm4Signed then imm.signExtend 16 else imm.setWidth 16

/-! ## Effective addresses (45_procreg_loadstore_misc.md R224 to R229; 43_bits.md R181) -/

/-- DTruncate_18: 256K wrap (00_scope.md R10). -/
def dTruncate18 (a : Addr) : Addr := a &&& 0x3FFFF#21

/-- disp5(Rbase) (45_procreg_loadstore_misc.md R225). -/
def State.eaDisp5 (s : State) (base : Reg) (disp : BitVec 5) : Addr :=
  dTruncate18 ((s.reg base).setWidth 21 + disp.setWidth 21)

/-- disp18(Rbase) (45_procreg_loadstore_misc.md R226). -/
def State.eaDisp18 (s : State) (base : Reg) (disp : BitVec 18) : Addr :=
  dTruncate18 ((s.reg base).setWidth 21 + disp.signExtend 21)

/-- disp18(Rbase+1, Rbase): bits 15:5 of the high register are ignored
(45_procreg_loadstore_misc.md R227). -/
def State.eaFar (s : State) (base : Reg) (disp : BitVec 18) : Addr :=
  (s.reg (pairHigh base)).extractLsb' 0 5 ++ s.reg base + disp.signExtend 21

/-- abs18 (45_procreg_loadstore_misc.md R228). -/
def eaAbs (addr : BitVec 18) : Addr := dTruncate18 (addr.setWidth 21)

/-- 0(Rbase) (43_bits.md R181). -/
def State.eaBase (s : State) (base : Restricted) : Addr :=
  dTruncate18 ((s.reg (restrictedReg base)).setWidth 21)

/-- disp16(Rbase), the displacement unsigned (43_bits.md R181; 90_conflicts.md C2, C3). -/
def State.eaDisp16 (s : State) (base : Restricted) (disp : BitVec 16) : Addr :=
  dTruncate18 ((s.reg (restrictedReg base)).setWidth 21 + disp.setWidth 21)

/-! ## Branch and jump targets, link values (44_jumps_linkage.md) -/

/-- pc + disp5, unsigned (42_compare_logic_shift.md R161). -/
def State.target5 (s : State) (disp : BitVec 5) : Addr := s.pc + disp.setWidth 21

/-- pc + disp9, signed; wraps at 2M (44_jumps_linkage.md R191). -/
def State.target9 (s : State) (disp : BitVec 9) : Addr := s.pc + disp.signExtend 21

/-- pc + disp17, signed; wraps at 128K: bits 20:17 are 0 (44_jumps_linkage.md R192, R195). -/
def State.target17 (s : State) (disp : BitVec 17) : Addr := (s.pc + disp.signExtend 21) &&& 0x1FFFF#21

/-- pc + disp21; wraps at 2M (44_jumps_linkage.md R193, R196). -/
def State.target21 (s : State) (disp : BitVec 21) : Addr := s.pc + disp

/-- The code address a register holds in the small model (44_jumps_linkage.md R198). -/
def codeSmall (lo : Word) : Addr := 0#4 ++ lo ++ 0#1

/-- The code address a pair holds in the large model: bits 15:4 of the high register are ignored
(44_jumps_linkage.md R199). -/
def codeLarge (hi lo : Word) : Addr := hi.extractLsb' 0 4 ++ lo ++ 0#1

/-- A pair the text excludes as target or link: RA or SP is its lower register
(10_state.md R25; 93_implementation_defined.md U11). -/
def excludedPair (r : Reg) : Bool := r == Reg.ra || r == Reg.sp

/-- next[16:1], the link value (44_jumps_linkage.md R195, R197). -/
def linkLow (next : Addr) : Word := next.extractLsb' 1 16

/-- zext_16(next[20:17]), what the high link register receives (44_jumps_linkage.md R197;
92_eei_decisions.md D9). -/
def linkHigh (next : Addr) : Word := (next.extractLsb' 17 4).setWidth 16

/-! ## Runs of registers and words (44_jumps_linkage.md R205; 92_eei_decisions.md D12) -/

/-- The number of registers: rcnt + 1 (30_encoding.md R111). -/
def countOf (rcnt : BitVec 2) : Nat := rcnt.toNat + 1

/-- The registers r, r + 1, ...: n of them, none above R15. -/
def regRun (r : Nat) (n : Nat) : List Reg :=
  match n with
  | 0 => []
  | k + 1 => if h : r < 16 then ⟨r, h⟩ :: regRun (r + 1) k else []

/-- The run reaches R15: the parameters PUSH, POP and POPRET must not have (44_jumps_linkage.md R205). -/
def reachesSp (r : Reg) (rcnt : BitVec 2) : Bool := decide (15 ≤ r.val + rcnt.toNat)

/-- Store words at a, a + 2, ...: 16-bit address arithmetic, ascending (44_jumps_linkage.md R205). -/
def State.storeWords (s : State) (a : Word) (vs : List Word) : State :=
  match vs with
  | [] => s
  | v :: rest => State.storeWords (s.writeWord (a.setWidth 21) v) (a + 2) rest

/-- Load registers from words at a, a + 2, ...: 16-bit address arithmetic, ascending
(44_jumps_linkage.md R205). -/
def State.loadRegs (s : State) (a : Word) (rs : List Reg) : State :=
  match rs with
  | [] => s
  | r :: rest =>
    let m := s.readWord (a.setWidth 21)
    State.loadRegs (m.2.setReg r m.1) (a + 2) rest

/-- A free value in each of the registers. -/
def State.freeRegs (s : State) (rs : List Reg) : State :=
  match rs with
  | [] => s
  | r :: rest =>
    let d := s.drawWord
    State.freeRegs (d.2.setReg r d.1) rest

/-- n free words. -/
def State.drawWords (s : State) (n : Nat) : List Word × State :=
  match n with
  | 0 => ([], s)
  | k + 1 =>
    let d := s.drawWord
    let rest := State.drawWords d.2 k
    (d.1 :: rest.1, rest.2)

/-- n words of free values stored at a, a + 2, ... -/
def State.storeFree (s : State) (a : Word) (n : Nat) : State :=
  let d := s.drawWords n
  d.2.storeWords a d.1

/-- The byte at an address takes a free value, without an access of the instruction's own. -/
def State.freeByteAt (s : State) (a : Addr) : State := s.drawByte.2.storeByte a s.drawByte.1

/-- n words at a, a + 2, ... take free values, without an access of the instruction's own. -/
def State.freeWords (s : State) (a : Word) (n : Nat) : State :=
  match n with
  | 0 => s
  | k + 1 => State.freeWords ((s.freeByteAt (a.setWidth 21)).freeByteAt (a.setWidth 21 + 1)) (a + 2) k

/-! ## Processor registers (10_state.md R44; 45_procreg_loadstore_misc.md R222) -/

/-- The registers LPR and SPR reach (10_state.md R44). -/
inductive ProcReg where
  | psr | intbaseL | intbaseH | cfg | dsr | dcr | isp | carL | carH
deriving DecidableEq, Repr

/-- The register of an Rproc code; the other seven codes are not assigned (10_state.md R44). -/
def procRegOf (code : BitVec 4) : Option ProcReg :=
  match code with
  | 0b0001#4 => some .psr
  | 0b0011#4 => some .intbaseL
  | 0b0100#4 => some .intbaseH
  | 0b0101#4 => some .cfg
  | 0b0111#4 => some .dsr
  | 0b1001#4 => some .dcr
  | 0b1011#4 => some .isp
  | 0b1101#4 => some .carL
  | 0b1110#4 => some .carH
  | _ => none

/-- w with the bits of mask taken from v. -/
def maskedWrite (w v mask : Word) : Word := (w &&& ~~~mask) ||| (v &&& mask)

/-- The defined bits of CFG: ED (10_state.md R39). -/
def cfgDefined : Word := 0x0100#16

/-- The defined bits of DSR (10_state.md R42). -/
def dsrDefined : Word := 0x000F#16

/-- The defined bits of DCR (10_state.md R40). -/
def dcrDefined : Word := 0xBDF3#16

/-- DBGL, AISE, ADBG, ATRC, ABPT: what DBGL locks (10_state.md R41). -/
def dcrLocked : Word := 0xBC00#16

/-- The bits of DCR an LPR can change: all the defined ones, less the locked ones once DBGL is 1
(10_state.md R41; 45_procreg_loadstore_misc.md R222). -/
def dcrWritable (dcr : Word) : Word :=
  if dcr.getLsbD dcrDbgl then dcrDefined &&& ~~~dcrLocked else dcrDefined

/-- LPR to PSR: bits 11:0 but 3, 4 and 8; a non-zero value for the reserved bits 15:12 leaves any value
there (45_procreg_loadstore_misc.md R222; 10_state.md R36; 93_implementation_defined.md U1). -/
def State.writePsr (s : State) (v : Word) : State :=
  if v &&& 0xF000#16 = 0 then s.setPsr (v &&& psrDefined)
  else
    let d := s.drawWord
    d.2.setPsr ((d.1 &&& 0xF000#16) ||| (v &&& psrDefined))

/-- What LPR writes, by the mask of the register (45_procreg_loadstore_misc.md R222). -/
def State.writeProc (s : State) (p : ProcReg) (v : Word) : State :=
  match p with
  | .psr => s.writePsr v
  | .intbaseL => s.setIntbase (s.intbase.extractLsb' 16 5 ++ (v &&& 0xFFFE#16))
  | .intbaseH => s.setIntbase (v.extractLsb' 0 5 ++ s.intbase.extractLsb' 0 16)
  | .cfg => s.setCfg (maskedWrite s.cfg v cfgDefined)
  | .dsr => s.setDsr (maskedWrite s.dsr v dsrDefined)
  | .dcr => s.setDcr (maskedWrite s.dcr v (dcrWritable s.dcr))
  | .isp => s.setIsp ((v &&& 0xFFFE#16).setWidth 21)
  | .carL => s.setCar (s.car.extractLsb' 16 5 ++ v)
  | .carH => s.setCar (v.extractLsb' 0 5 ++ s.car.extractLsb' 0 16)

/-- A register whose bits outside mask are reserved: those read as free bits
(93_implementation_defined.md U7). -/
def State.readReserved (s : State) (w mask : Word) : Word × State :=
  let d := s.drawWord
  (maskedWrite d.1 w mask, d.2)

/-- What SPR reads (45_procreg_loadstore_misc.md R222; 93_implementation_defined.md U7). Bits 3, 4, 8
of PSR read 0 whatever is stored. -/
def State.readProc (s : State) (p : ProcReg) : Word × State :=
  match p with
  | .psr => s.readReserved (s.psr &&& psrDefined) 0x0FFF#16
  | .intbaseL => (s.intbase.extractLsb' 0 16, s)
  | .intbaseH => ((s.intbase.extractLsb' 16 5).setWidth 16, s)
  | .cfg => s.readReserved s.cfg cfgDefined
  | .dsr => s.readReserved s.dsr dsrDefined
  | .dcr => s.readReserved s.dcr dcrDefined
  | .isp => (s.isp.extractLsb' 0 16, s)
  | .carL => (s.car.extractLsb' 0 16, s)
  | .carH => s.readReserved ((s.car.extractLsb' 16 5).setWidth 16) 0x001F#16

end Sys2Proof.Machine
end

