-- ==== Sys2Proof/Machine/Flags.lean ====
section
/-! DEFINITION. Arithmetic with its flags, comparisons, conditions and shifts: 41_arithmetic.md R140,
42_compare_logic_shift.md R160, R170 to R172, 30_encoding.md R109. Sums and differences are computed
exactly over Nat and Int and narrowed once. -/

namespace Sys2Proof.Machine

/-- A sum or a difference: its low bits, its carry or borrow, and its signed overflow. -/
structure Arith (n : Nat) where
  value : BitVec n
  carry : Bool
  overflow : Bool
deriving DecidableEq, Repr

/-- The exact signed result t does not fit in n bits (41_arithmetic.md R140). -/
def outOfRange (n : Nat) (t : Int) : Bool := decide (t < -(2 : Int) ^ (n - 1) ∨ (2 : Int) ^ (n - 1) ≤ t)

/-- add(a, b, c) (41_arithmetic.md R140). -/
def addWith (a b : BitVec n) (c : Bool) : Arith n where
  value := BitVec.ofNat n (a.toNat + b.toNat + c.toNat)
  carry := decide (2 ^ n ≤ a.toNat + b.toNat + c.toNat)
  overflow := outOfRange n (a.toInt + b.toInt + c.toNat)

/-- sub(a, b, c) (41_arithmetic.md R140). -/
def subWith (a b : BitVec n) (c : Bool) : Arith n where
  value := BitVec.ofInt n ((a.toNat : Int) - b.toNat - c.toNat)
  carry := decide (a.toNat < b.toNat + c.toNat)
  overflow := outOfRange n (a.toInt - b.toInt - c.toNat)

/-- PSR.C <- carry or borrow, PSR.F <- overflow (41_arithmetic.md R141 to R144). -/
def State.setCarryOverflow (s : State) (r : Arith n) : State := (s.setFlag psrC r.carry).setFlag psrF r.overflow

/-- A byte sum or difference written back with its flags (41_arithmetic.md R141 to R144). -/
def State.arithByte (s : State) (dest : Reg) (r : Arith 8) (len : Addr) : State :=
  ((s.setRegByte dest r.value).setCarryOverflow r).advance len

/-- A word sum or difference written back with its flags (41_arithmetic.md R141 to R144). -/
def State.arithWord (s : State) (dest : Reg) (r : Arith 16) (len : Addr) : State :=
  ((s.setReg dest r.value).setCarryOverflow r).advance len

/-- A byte result that writes no flag. -/
def State.resultByte (s : State) (dest : Reg) (v : Byte) (len : Addr) : State :=
  (s.setRegByte dest v).advance len

/-- A word result that writes no flag. -/
def State.resultWord (s : State) (dest : Reg) (v : Word) (len : Addr) : State :=
  (s.setReg dest v).advance len

/-- A 32-bit result in the pair of dest: the low half in dest (10_state.md R25). -/
def State.resultPair (s : State) (dest : Reg) (p : BitVec 32) (len : Addr) : State :=
  ((s.setReg dest (p.extractLsb' 0 16)).setReg (pairHigh dest) (p.extractLsb' 16 16)).advance len

/-- An instruction that names the pair of dest: the pair of R15 does not exist
(93_implementation_defined.md U11). -/
def withPair (dest : Reg) (t : State) : Host.Outcome State Fault Refusal :=
  if dest = Reg.sp then .refused .excludedRegisterPair else .next t

/-- A multiply: an interrupt accepted while it executes suspends it, else it completes as t
(41_arithmetic.md R149; 60_exceptions.md R266; 92_eei_decisions.md D14). -/
def State.multiply (s t : State) : State :=
  match s.acceptedInterrupt s.pins.duringMul with
  | some x => s.suspendMultiply x
  | none => t

/-- CMPi: Z, N and L from src1 = a and src2 = b; no other bit changes (42_compare_logic_shift.md R160). -/
def State.compare (s : State) (a b : BitVec n) (len : Addr) : State :=
  (((s.setFlag psrZ (a == b)).setFlag psrN (b.slt a)).setFlag psrL (b.ult a)).advance len

/-- Whether a condition holds in a PSR (30_encoding.md R109). -/
def condHolds (c : Cond) (psr : Word) : Bool :=
  let z := psr.getLsbD psrZ
  let n := psr.getLsbD psrN
  let l := psr.getLsbD psrL
  match c with
  | .eq => z
  | .ne => !z
  | .cs => psr.getLsbD psrC
  | .cc => !psr.getLsbD psrC
  | .hi => l
  | .ls => !l
  | .gt => n
  | .le => !n
  | .fs => psr.getLsbD psrF
  | .fc => !psr.getLsbD psrF
  | .lo => !z && !l
  | .hs => z || l
  | .lt => !z && !n
  | .ge => z || n

/-- A condition under the PSR of the state (44_jumps_linkage.md R190). -/
def State.holds (s : State) (c : Cond) : Bool := condHolds c s.psr

/-! ## Shifts (42_compare_logic_shift.md R170 to R172) -/

/-- The count: the low byte, signed (42_compare_logic_shift.md R170). -/
def shiftCount (w : Word) : Int := (w.extractLsb' 0 8).toInt

/-- ASHUi: none where the count is out of range (42_compare_logic_shift.md R171). -/
def ashift (x : BitVec n) (k : Int) : Option (BitVec n) :=
  if n ≤ k.natAbs then none
  else if 0 ≤ k then some (x <<< k.natAbs)
  else some (x.sshiftRight k.natAbs)

/-- LSHi: none where the count is out of range (42_compare_logic_shift.md R172). -/
def lshift (x : BitVec n) (k : Int) : Option (BitVec n) :=
  if n ≤ k.natAbs then none
  else if 0 ≤ k then some (x <<< k.natAbs)
  else some (x >>> k.natAbs)

/-- A byte shift: out of range the low byte takes any value (93_implementation_defined.md U5). -/
def State.shiftByte (s : State) (dest : Reg) (v : Option Byte) (len : Addr) : State :=
  match v with
  | some v => s.resultByte dest v len
  | none => s.drawByte.2.resultByte dest s.drawByte.1 len

/-- A word shift: out of range the word takes any value (93_implementation_defined.md U5). -/
def State.shiftWord (s : State) (dest : Reg) (v : Option Word) (len : Addr) : State :=
  match v with
  | some v => s.resultWord dest v len
  | none => s.drawWord.2.resultWord dest s.drawWord.1 len

/-! ## Bits (43_bits.md R180 to R187) -/

/-- TBIT: F from bit pos of v; any value above 15 (43_bits.md R183; 93_implementation_defined.md U6). -/
def State.testBit (s : State) (v pos : Word) (len : Addr) : State :=
  if pos.toNat < 16 then (s.setFlag psrF (v.getLsbD pos.toNat)).advance len
  else (s.drawBit.2.setFlag psrF s.drawBit.1).advance len

/-- TBITB (43_bits.md R180, R184; positions 8 to 15: 93_implementation_defined.md U6). -/
def State.testByteAt (s : State) (ea : Addr) (pos : BitVec 4) (len : Addr) : State :=
  let m := s.readByte ea
  if pos.toNat < 8 then (m.2.setFlag psrF (m.1.getLsbD pos.toNat)).advance len
  else (m.2.drawBit.2.setFlag psrF m.2.drawBit.1).advance len

/-- TBITW (43_bits.md R180, R184). -/
def State.testWordAt (s : State) (ea : Addr) (pos : BitVec 4) (len : Addr) : State :=
  let m := s.readWord ea
  (m.2.setFlag psrF (m.1.getLsbD pos.toNat)).advance len

/-- SBITB (b = true) and CBITB (b = false): F from the old bit, then the byte written back; for
positions 8 to 15 both take any value (43_bits.md R180, R185, R186; 93_implementation_defined.md U6). -/
def State.changeByteAt (s : State) (ea : Addr) (pos : BitVec 4) (b : Bool) (len : Addr) : State :=
  let m := s.readByte ea
  if pos.toNat < 8 then
    ((m.2.setFlag psrF (m.1.getLsbD pos.toNat)).writeByte ea (withBit m.1 pos.toNat b)).advance len
  else
    let f := m.2.drawBit
    let v := f.2.drawByte
    ((v.2.setFlag psrF f.1).writeByte ea v.1).advance len

/-- SBITW (b = true) and CBITW (b = false) (43_bits.md R180, R185, R186). -/
def State.changeWordAt (s : State) (ea : Addr) (pos : BitVec 4) (b : Bool) (len : Addr) : State :=
  let m := s.readWord ea
  ((m.2.setFlag psrF (m.1.getLsbD pos.toNat)).writeWord ea (withBit m.1 pos.toNat b)).advance len

/-! ## Control transfer (44_jumps_linkage.md) -/

/-- A conditional branch (42_compare_logic_shift.md R161; 44_jumps_linkage.md R191 to R193, R198). -/
def State.branch (s : State) (taken : Bool) (target : Addr) (len : Addr) : State :=
  if taken then s.setPc target else s.advance len

/-- Jcond of the large model: a taken jump through an excluded pair has no stated effect
(44_jumps_linkage.md R199; 93_implementation_defined.md U11). -/
def State.jumpPair (s : State) (taken : Bool) (target : Reg) : Host.Outcome State Fault Refusal :=
  if taken && excludedPair target then .refused .excludedRegisterPair
  else .next (s.branch taken (codeLarge (s.reg (pairHigh target)) (s.reg target)) 2)

/-- The link of the small model (44_jumps_linkage.md R195, R201). -/
def State.linkOne (s : State) (link : Reg) (next : Addr) : State := s.setReg link (linkLow next)

/-- The link pair of the large model (44_jumps_linkage.md R196, R197, R202). -/
def State.linkTwo (s : State) (link : Reg) (next : Addr) : State :=
  (s.setReg link (linkLow next)).setReg (pairHigh link) (linkHigh next)

/-- The pairs of link and target share one register: they overlap and differ
(93_implementation_defined.md U11). -/
def overlap (link target : Reg) : Bool := pairHigh link == target || pairHigh target == link

/-! ## The stack (44_jumps_linkage.md R205 to R209) -/

/-- The registers of a run (44_jumps_linkage.md R205). -/
def runOf (r : Reg) (rcnt : BitVec 2) : List Reg := regRun r.val (countOf rcnt)

/-- The bytes a run occupies, as a word. -/
def runBytes (rcnt : BitVec 2) : Word := BitVec.ofNat 16 (2 * countOf rcnt)

/-- PUSH, without the advance of the PC. Where the run reaches R15 its registers, SP and the stack bytes
take any value (44_jumps_linkage.md R206; 93_implementation_defined.md U12; notes/assumptions/25.md). -/
def State.pushRun (s : State) (rcnt : BitVec 2) (r : Reg) : State :=
  let a := s.reg Reg.sp - runBytes rcnt
  if reachesSp r rcnt then
    let s1 := (s.storeFree a (countOf rcnt)).freeRegs (runOf r rcnt)
    s1.drawWord.2.setReg Reg.sp s1.drawWord.1
  else (s.storeWords a ((runOf r rcnt).map s.reg)).setReg Reg.sp a

/-- POP, without the advance of the PC; the same exception as PUSH (44_jumps_linkage.md R207;
93_implementation_defined.md U12; notes/assumptions/25.md). -/
def State.popRun (s : State) (rcnt : BitVec 2) (r : Reg) : State :=
  let a := s.reg Reg.sp
  if reachesSp r rcnt then
    let s1 := ((s.loadRegs a (runOf r rcnt)).freeWords a (countOf rcnt)).freeRegs (runOf r rcnt)
    s1.drawWord.2.setReg Reg.sp s1.drawWord.1
  else (s.loadRegs a (runOf r rcnt)).setReg Reg.sp (a + runBytes rcnt)

/-- The jump of POPRET: where the run reached R15 the PC takes any value (44_jumps_linkage.md R208, R209;
93_implementation_defined.md U12). -/
def State.popReturn (s : State) (reached : Bool) (target : Addr) : State :=
  if reached then s.drawAddr.2.setPc s.drawAddr.1 else s.setPc target

end Sys2Proof.Machine
end

