-- ==== Sys2Proof/Machine/Arith.lean ====
section
/-! DEFINITION. ADD, ADDU, ADDC, SUB, SUBC: 41_arithmetic.md R141 to R144. -/

namespace Sys2Proof.Machine

/-- ADDB, register form (41_arithmetic.md R141). -/
def execAddbReg (src : Reg) (dest : Reg) (s : State) : Host.Outcome State Fault Refusal :=
  .next (s.arithByte dest (addWith (s.regByte dest) (s.regByte src) false) 2)

/-- ADDB, short immediate form (41_arithmetic.md R141). -/
def execAddbImm5 (imm : BitVec 5) (dest : Reg) (s : State) : Host.Outcome State Fault Refusal :=
  .next (s.arithByte dest (addWith (s.regByte dest) (immByte (shortImm imm)) false) 2)

/-- ADDB, medium immediate form (41_arithmetic.md R141). -/
def execAddbImm16 (imm : BitVec 16) (dest : Reg) (s : State) : Host.Outcome State Fault Refusal :=
  .next (s.arithByte dest (addWith (s.regByte dest) (immByte imm) false) 4)

/-- ADDW, register form (41_arithmetic.md R141). -/
def execAddwReg (src : Reg) (dest : Reg) (s : State) : Host.Outcome State Fault Refusal :=
  .next (s.arithWord dest (addWith (s.reg dest) (s.reg src) false) 2)

/-- ADDW, short immediate form (41_arithmetic.md R141). -/
def execAddwImm5 (imm : BitVec 5) (dest : Reg) (s : State) : Host.Outcome State Fault Refusal :=
  .next (s.arithWord dest (addWith (s.reg dest) (shortImm imm) false) 2)

/-- ADDW, medium immediate form (41_arithmetic.md R141). -/
def execAddwImm16 (imm : BitVec 16) (dest : Reg) (s : State) : Host.Outcome State Fault Refusal :=
  .next (s.arithWord dest (addWith (s.reg dest) imm false) 4)

/-- ADDUB, register form: no flag is written (41_arithmetic.md R141). -/
def execAddubReg (src : Reg) (dest : Reg) (s : State) : Host.Outcome State Fault Refusal :=
  .next (s.resultByte dest (s.regByte dest + s.regByte src) 2)

/-- ADDUB, short immediate form: no flag is written (41_arithmetic.md R141). -/
def execAddubImm5 (imm : BitVec 5) (dest : Reg) (s : State) : Host.Outcome State Fault Refusal :=
  .next (s.resultByte dest (s.regByte dest + immByte (shortImm imm)) 2)

/-- ADDUB, medium immediate form: no flag is written (41_arithmetic.md R141). -/
def execAddubImm16 (imm : BitVec 16) (dest : Reg) (s : State) : Host.Outcome State Fault Refusal :=
  .next (s.resultByte dest (s.regByte dest + immByte imm) 4)

/-- ADDUW, register form: no flag is written (41_arithmetic.md R141). -/
def execAdduwReg (src : Reg) (dest : Reg) (s : State) : Host.Outcome State Fault Refusal :=
  .next (s.resultWord dest (s.reg dest + s.reg src) 2)

/-- ADDUW, short immediate form: no flag is written (41_arithmetic.md R141). -/
def execAdduwImm5 (imm : BitVec 5) (dest : Reg) (s : State) : Host.Outcome State Fault Refusal :=
  .next (s.resultWord dest (s.reg dest + shortImm imm) 2)

/-- ADDUW, medium immediate form: no flag is written (41_arithmetic.md R141). -/
def execAdduwImm16 (imm : BitVec 16) (dest : Reg) (s : State) : Host.Outcome State Fault Refusal :=
  .next (s.resultWord dest (s.reg dest + imm) 4)

/-- ADDCB, register form (41_arithmetic.md R142). -/
def execAddcbReg (src : Reg) (dest : Reg) (s : State) : Host.Outcome State Fault Refusal :=
  .next (s.arithByte dest (addWith (s.regByte dest) (s.regByte src) (s.flag psrC)) 2)

/-- ADDCB, short immediate form (41_arithmetic.md R142). -/
def execAddcbImm5 (imm : BitVec 5) (dest : Reg) (s : State) : Host.Outcome State Fault Refusal :=
  .next (s.arithByte dest (addWith (s.regByte dest) (immByte (shortImm imm)) (s.flag psrC)) 2)

/-- ADDCB, medium immediate form (41_arithmetic.md R142). -/
def execAddcbImm16 (imm : BitVec 16) (dest : Reg) (s : State) : Host.Outcome State Fault Refusal :=
  .next (s.arithByte dest (addWith (s.regByte dest) (immByte imm) (s.flag psrC)) 4)

/-- ADDCW, register form (41_arithmetic.md R142). -/
def execAddcwReg (src : Reg) (dest : Reg) (s : State) : Host.Outcome State Fault Refusal :=
  .next (s.arithWord dest (addWith (s.reg dest) (s.reg src) (s.flag psrC)) 2)

/-- ADDCW, short immediate form (41_arithmetic.md R142). -/
def execAddcwImm5 (imm : BitVec 5) (dest : Reg) (s : State) : Host.Outcome State Fault Refusal :=
  .next (s.arithWord dest (addWith (s.reg dest) (shortImm imm) (s.flag psrC)) 2)

/-- ADDCW, medium immediate form (41_arithmetic.md R142). -/
def execAddcwImm16 (imm : BitVec 16) (dest : Reg) (s : State) : Host.Outcome State Fault Refusal :=
  .next (s.arithWord dest (addWith (s.reg dest) imm (s.flag psrC)) 4)

/-- SUBCB, register form (41_arithmetic.md R144). -/
def execSubcbReg (src : Reg) (dest : Reg) (s : State) : Host.Outcome State Fault Refusal :=
  .next (s.arithByte dest (subWith (s.regByte dest) (s.regByte src) (s.flag psrC)) 2)

/-- SUBCB, short immediate form (41_arithmetic.md R144). -/
def execSubcbImm5 (imm : BitVec 5) (dest : Reg) (s : State) : Host.Outcome State Fault Refusal :=
  .next (s.arithByte dest (subWith (s.regByte dest) (immByte (shortImm imm)) (s.flag psrC)) 2)

/-- SUBCB, medium immediate form (41_arithmetic.md R144). -/
def execSubcbImm16 (imm : BitVec 16) (dest : Reg) (s : State) : Host.Outcome State Fault Refusal :=
  .next (s.arithByte dest (subWith (s.regByte dest) (immByte imm) (s.flag psrC)) 4)

/-- SUBCW, register form (41_arithmetic.md R144). -/
def execSubcwReg (src : Reg) (dest : Reg) (s : State) : Host.Outcome State Fault Refusal :=
  .next (s.arithWord dest (subWith (s.reg dest) (s.reg src) (s.flag psrC)) 2)

/-- SUBCW, short immediate form (41_arithmetic.md R144). -/
def execSubcwImm5 (imm : BitVec 5) (dest : Reg) (s : State) : Host.Outcome State Fault Refusal :=
  .next (s.arithWord dest (subWith (s.reg dest) (shortImm imm) (s.flag psrC)) 2)

/-- SUBCW, medium immediate form (41_arithmetic.md R144). -/
def execSubcwImm16 (imm : BitVec 16) (dest : Reg) (s : State) : Host.Outcome State Fault Refusal :=
  .next (s.arithWord dest (subWith (s.reg dest) imm (s.flag psrC)) 4)

/-- SUBB, register form (41_arithmetic.md R143). -/
def execSubbReg (src : Reg) (dest : Reg) (s : State) : Host.Outcome State Fault Refusal :=
  .next (s.arithByte dest (subWith (s.regByte dest) (s.regByte src) false) 2)

/-- SUBB, short immediate form (41_arithmetic.md R143). -/
def execSubbImm5 (imm : BitVec 5) (dest : Reg) (s : State) : Host.Outcome State Fault Refusal :=
  .next (s.arithByte dest (subWith (s.regByte dest) (immByte (shortImm imm)) false) 2)

/-- SUBB, medium immediate form (41_arithmetic.md R143). -/
def execSubbImm16 (imm : BitVec 16) (dest : Reg) (s : State) : Host.Outcome State Fault Refusal :=
  .next (s.arithByte dest (subWith (s.regByte dest) (immByte imm) false) 4)

/-- SUBW, register form (41_arithmetic.md R143). -/
def execSubwReg (src : Reg) (dest : Reg) (s : State) : Host.Outcome State Fault Refusal :=
  .next (s.arithWord dest (subWith (s.reg dest) (s.reg src) false) 2)

/-- SUBW, short immediate form (41_arithmetic.md R143). -/
def execSubwImm5 (imm : BitVec 5) (dest : Reg) (s : State) : Host.Outcome State Fault Refusal :=
  .next (s.arithWord dest (subWith (s.reg dest) (shortImm imm) false) 2)

/-- SUBW, medium immediate form (41_arithmetic.md R143). -/
def execSubwImm16 (imm : BitVec 16) (dest : Reg) (s : State) : Host.Outcome State Fault Refusal :=
  .next (s.arithWord dest (subWith (s.reg dest) imm false) 4)

end Sys2Proof.Machine
end

