-- ==== Sys2Proof/Machine/Bits.lean ====
section
/-! DEFINITION. TBIT, TBITi, SBITi, CBITi: 43_bits.md. -/

namespace Sys2Proof.Machine

/-- TBIT, register form (43_bits.md R183). -/
def execTbitReg (offset : Reg) (src : Reg) (s : State) : Host.Outcome State Fault Refusal :=
  .next (s.testBit (s.reg src) (s.reg offset) 2)

/-- TBIT, short immediate form (43_bits.md R183). -/
def execTbitImm5 (pos : BitVec 5) (src : Reg) (s : State) : Host.Outcome State Fault Refusal :=
  .next (s.testBit (s.reg src) (shortImm pos) 2)

/-- TBIT, medium immediate form (43_bits.md R183). -/
def execTbitImm16 (pos : BitVec 16) (src : Reg) (s : State) : Host.Outcome State Fault Refusal :=
  .next (s.testBit (s.reg src) pos 4)

/-- CBITB, 0(Rbase) (43_bits.md R180, R181, R186). -/
def execCbitbBase (pos : BitVec 4) (base : Restricted) (s : State) : Host.Outcome State Fault Refusal :=
  .next (s.changeByteAt (s.eaBase base) pos false 2)

/-- CBITB, disp16(Rbase) (43_bits.md R180, R181, R186). -/
def execCbitbDisp16 (pos : BitVec 4) (disp : BitVec 16) (base : Restricted) (s : State) : Host.Outcome State Fault Refusal :=
  .next (s.changeByteAt (s.eaDisp16 base disp) pos false 4)

/-- CBITB, abs18 (43_bits.md R180, R181, R186). -/
def execCbitbAbs (pos : BitVec 4) (addr : BitVec 18) (s : State) : Host.Outcome State Fault Refusal :=
  .next (s.changeByteAt (eaAbs addr) pos false 4)

/-- CBITW, 0(Rbase) (43_bits.md R180, R181, R186). -/
def execCbitwBase (pos : BitVec 4) (base : Restricted) (s : State) : Host.Outcome State Fault Refusal :=
  .next (s.changeWordAt (s.eaBase base) pos false 2)

/-- CBITW, disp16(Rbase) (43_bits.md R180, R181, R186). -/
def execCbitwDisp16 (pos : BitVec 4) (disp : BitVec 16) (base : Restricted) (s : State) : Host.Outcome State Fault Refusal :=
  .next (s.changeWordAt (s.eaDisp16 base disp) pos false 4)

/-- CBITW, abs18 (43_bits.md R180, R181, R186). -/
def execCbitwAbs (pos : BitVec 4) (addr : BitVec 18) (s : State) : Host.Outcome State Fault Refusal :=
  .next (s.changeWordAt (eaAbs addr) pos false 4)

/-- SBITB, 0(Rbase) (43_bits.md R180, R181, R185). -/
def execSbitbBase (pos : BitVec 4) (base : Restricted) (s : State) : Host.Outcome State Fault Refusal :=
  .next (s.changeByteAt (s.eaBase base) pos true 2)

/-- SBITB, disp16(Rbase) (43_bits.md R180, R181, R185). -/
def execSbitbDisp16 (pos : BitVec 4) (disp : BitVec 16) (base : Restricted) (s : State) : Host.Outcome State Fault Refusal :=
  .next (s.changeByteAt (s.eaDisp16 base disp) pos true 4)

/-- SBITB, abs18 (43_bits.md R180, R181, R185). -/
def execSbitbAbs (pos : BitVec 4) (addr : BitVec 18) (s : State) : Host.Outcome State Fault Refusal :=
  .next (s.changeByteAt (eaAbs addr) pos true 4)

/-- SBITW, 0(Rbase) (43_bits.md R180, R181, R185). -/
def execSbitwBase (pos : BitVec 4) (base : Restricted) (s : State) : Host.Outcome State Fault Refusal :=
  .next (s.changeWordAt (s.eaBase base) pos true 2)

/-- SBITW, disp16(Rbase) (43_bits.md R180, R181, R185). -/
def execSbitwDisp16 (pos : BitVec 4) (disp : BitVec 16) (base : Restricted) (s : State) : Host.Outcome State Fault Refusal :=
  .next (s.changeWordAt (s.eaDisp16 base disp) pos true 4)

/-- SBITW, abs18 (43_bits.md R180, R181, R185). -/
def execSbitwAbs (pos : BitVec 4) (addr : BitVec 18) (s : State) : Host.Outcome State Fault Refusal :=
  .next (s.changeWordAt (eaAbs addr) pos true 4)

/-- TBITB, 0(Rbase) (43_bits.md R180, R181, R184). -/
def execTbitbBase (pos : BitVec 4) (base : Restricted) (s : State) : Host.Outcome State Fault Refusal :=
  .next (s.testByteAt (s.eaBase base) pos 2)

/-- TBITB, disp16(Rbase) (43_bits.md R180, R181, R184). -/
def execTbitbDisp16 (pos : BitVec 4) (disp : BitVec 16) (base : Restricted) (s : State) : Host.Outcome State Fault Refusal :=
  .next (s.testByteAt (s.eaDisp16 base disp) pos 4)

/-- TBITB, abs18 (43_bits.md R180, R181, R184). -/
def execTbitbAbs (pos : BitVec 4) (addr : BitVec 18) (s : State) : Host.Outcome State Fault Refusal :=
  .next (s.testByteAt (eaAbs addr) pos 4)

/-- TBITW, 0(Rbase) (43_bits.md R180, R181, R184). -/
def execTbitwBase (pos : BitVec 4) (base : Restricted) (s : State) : Host.Outcome State Fault Refusal :=
  .next (s.testWordAt (s.eaBase base) pos 2)

/-- TBITW, disp16(Rbase) (43_bits.md R180, R181, R184). -/
def execTbitwDisp16 (pos : BitVec 4) (disp : BitVec 16) (base : Restricted) (s : State) : Host.Outcome State Fault Refusal :=
  .next (s.testWordAt (s.eaDisp16 base disp) pos 4)

/-- TBITW, abs18 (43_bits.md R180, R181, R184). -/
def execTbitwAbs (pos : BitVec 4) (addr : BitVec 18) (s : State) : Host.Outcome State Fault Refusal :=
  .next (s.testWordAt (eaAbs addr) pos 4)

end Sys2Proof.Machine
end

