-- ==== Sys2Proof/Machine/Branch.lean ====
section
/-! DEFINITION. Bcond, BR and BAL: 44_jumps_linkage.md R190 to R197. -/

namespace Sys2Proof.Machine

/-- BEQ, short displacement (44_jumps_linkage.md R190, R191). -/
def execBeqDisp9 (disp : BitVec 9) (s : State) : Host.Outcome State Fault Refusal :=
  .next (s.branch (s.holds .eq) (s.target9 disp) 2)

/-- BEQ, medium displacement, small model (44_jumps_linkage.md R190, R192). -/
def execBeqDisp17 (disp : BitVec 17) (s : State) : Host.Outcome State Fault Refusal :=
  .next (s.branch (s.holds .eq) (s.target17 disp) 4)

/-- BEQ, medium displacement, large model (44_jumps_linkage.md R190, R193). -/
def execBeqDisp21 (disp : BitVec 21) (s : State) : Host.Outcome State Fault Refusal :=
  .next (s.branch (s.holds .eq) (s.target21 disp) 4)

/-- BNE, short displacement (44_jumps_linkage.md R190, R191). -/
def execBneDisp9 (disp : BitVec 9) (s : State) : Host.Outcome State Fault Refusal :=
  .next (s.branch (s.holds .ne) (s.target9 disp) 2)

/-- BNE, medium displacement, small model (44_jumps_linkage.md R190, R192). -/
def execBneDisp17 (disp : BitVec 17) (s : State) : Host.Outcome State Fault Refusal :=
  .next (s.branch (s.holds .ne) (s.target17 disp) 4)

/-- BNE, medium displacement, large model (44_jumps_linkage.md R190, R193). -/
def execBneDisp21 (disp : BitVec 21) (s : State) : Host.Outcome State Fault Refusal :=
  .next (s.branch (s.holds .ne) (s.target21 disp) 4)

/-- BCS, short displacement (44_jumps_linkage.md R190, R191). -/
def execBcsDisp9 (disp : BitVec 9) (s : State) : Host.Outcome State Fault Refusal :=
  .next (s.branch (s.holds .cs) (s.target9 disp) 2)

/-- BCS, medium displacement, small model (44_jumps_linkage.md R190, R192). -/
def execBcsDisp17 (disp : BitVec 17) (s : State) : Host.Outcome State Fault Refusal :=
  .next (s.branch (s.holds .cs) (s.target17 disp) 4)

/-- BCS, medium displacement, large model (44_jumps_linkage.md R190, R193). -/
def execBcsDisp21 (disp : BitVec 21) (s : State) : Host.Outcome State Fault Refusal :=
  .next (s.branch (s.holds .cs) (s.target21 disp) 4)

/-- BCC, short displacement (44_jumps_linkage.md R190, R191). -/
def execBccDisp9 (disp : BitVec 9) (s : State) : Host.Outcome State Fault Refusal :=
  .next (s.branch (s.holds .cc) (s.target9 disp) 2)

/-- BCC, medium displacement, small model (44_jumps_linkage.md R190, R192). -/
def execBccDisp17 (disp : BitVec 17) (s : State) : Host.Outcome State Fault Refusal :=
  .next (s.branch (s.holds .cc) (s.target17 disp) 4)

/-- BCC, medium displacement, large model (44_jumps_linkage.md R190, R193). -/
def execBccDisp21 (disp : BitVec 21) (s : State) : Host.Outcome State Fault Refusal :=
  .next (s.branch (s.holds .cc) (s.target21 disp) 4)

/-- BHI, short displacement (44_jumps_linkage.md R190, R191). -/
def execBhiDisp9 (disp : BitVec 9) (s : State) : Host.Outcome State Fault Refusal :=
  .next (s.branch (s.holds .hi) (s.target9 disp) 2)

/-- BHI, medium displacement, small model (44_jumps_linkage.md R190, R192). -/
def execBhiDisp17 (disp : BitVec 17) (s : State) : Host.Outcome State Fault Refusal :=
  .next (s.branch (s.holds .hi) (s.target17 disp) 4)

/-- BHI, medium displacement, large model (44_jumps_linkage.md R190, R193). -/
def execBhiDisp21 (disp : BitVec 21) (s : State) : Host.Outcome State Fault Refusal :=
  .next (s.branch (s.holds .hi) (s.target21 disp) 4)

/-- BLS, short displacement (44_jumps_linkage.md R190, R191). -/
def execBlsDisp9 (disp : BitVec 9) (s : State) : Host.Outcome State Fault Refusal :=
  .next (s.branch (s.holds .ls) (s.target9 disp) 2)

/-- BLS, medium displacement, small model (44_jumps_linkage.md R190, R192). -/
def execBlsDisp17 (disp : BitVec 17) (s : State) : Host.Outcome State Fault Refusal :=
  .next (s.branch (s.holds .ls) (s.target17 disp) 4)

/-- BLS, medium displacement, large model (44_jumps_linkage.md R190, R193). -/
def execBlsDisp21 (disp : BitVec 21) (s : State) : Host.Outcome State Fault Refusal :=
  .next (s.branch (s.holds .ls) (s.target21 disp) 4)

/-- BGT, short displacement (44_jumps_linkage.md R190, R191). -/
def execBgtDisp9 (disp : BitVec 9) (s : State) : Host.Outcome State Fault Refusal :=
  .next (s.branch (s.holds .gt) (s.target9 disp) 2)

/-- BGT, medium displacement, small model (44_jumps_linkage.md R190, R192). -/
def execBgtDisp17 (disp : BitVec 17) (s : State) : Host.Outcome State Fault Refusal :=
  .next (s.branch (s.holds .gt) (s.target17 disp) 4)

/-- BGT, medium displacement, large model (44_jumps_linkage.md R190, R193). -/
def execBgtDisp21 (disp : BitVec 21) (s : State) : Host.Outcome State Fault Refusal :=
  .next (s.branch (s.holds .gt) (s.target21 disp) 4)

/-- BLE, short displacement (44_jumps_linkage.md R190, R191). -/
def execBleDisp9 (disp : BitVec 9) (s : State) : Host.Outcome State Fault Refusal :=
  .next (s.branch (s.holds .le) (s.target9 disp) 2)

/-- BLE, medium displacement, small model (44_jumps_linkage.md R190, R192). -/
def execBleDisp17 (disp : BitVec 17) (s : State) : Host.Outcome State Fault Refusal :=
  .next (s.branch (s.holds .le) (s.target17 disp) 4)

/-- BLE, medium displacement, large model (44_jumps_linkage.md R190, R193). -/
def execBleDisp21 (disp : BitVec 21) (s : State) : Host.Outcome State Fault Refusal :=
  .next (s.branch (s.holds .le) (s.target21 disp) 4)

/-- BFS, short displacement (44_jumps_linkage.md R190, R191). -/
def execBfsDisp9 (disp : BitVec 9) (s : State) : Host.Outcome State Fault Refusal :=
  .next (s.branch (s.holds .fs) (s.target9 disp) 2)

/-- BFS, medium displacement, small model (44_jumps_linkage.md R190, R192). -/
def execBfsDisp17 (disp : BitVec 17) (s : State) : Host.Outcome State Fault Refusal :=
  .next (s.branch (s.holds .fs) (s.target17 disp) 4)

/-- BFS, medium displacement, large model (44_jumps_linkage.md R190, R193). -/
def execBfsDisp21 (disp : BitVec 21) (s : State) : Host.Outcome State Fault Refusal :=
  .next (s.branch (s.holds .fs) (s.target21 disp) 4)

/-- BFC, short displacement (44_jumps_linkage.md R190, R191). -/
def execBfcDisp9 (disp : BitVec 9) (s : State) : Host.Outcome State Fault Refusal :=
  .next (s.branch (s.holds .fc) (s.target9 disp) 2)

/-- BFC, medium displacement, small model (44_jumps_linkage.md R190, R192). -/
def execBfcDisp17 (disp : BitVec 17) (s : State) : Host.Outcome State Fault Refusal :=
  .next (s.branch (s.holds .fc) (s.target17 disp) 4)

/-- BFC, medium displacement, large model (44_jumps_linkage.md R190, R193). -/
def execBfcDisp21 (disp : BitVec 21) (s : State) : Host.Outcome State Fault Refusal :=
  .next (s.branch (s.holds .fc) (s.target21 disp) 4)

/-- BLO, short displacement (44_jumps_linkage.md R190, R191). -/
def execBloDisp9 (disp : BitVec 9) (s : State) : Host.Outcome State Fault Refusal :=
  .next (s.branch (s.holds .lo) (s.target9 disp) 2)

/-- BLO, medium displacement, small model (44_jumps_linkage.md R190, R192). -/
def execBloDisp17 (disp : BitVec 17) (s : State) : Host.Outcome State Fault Refusal :=
  .next (s.branch (s.holds .lo) (s.target17 disp) 4)

/-- BLO, medium displacement, large model (44_jumps_linkage.md R190, R193). -/
def execBloDisp21 (disp : BitVec 21) (s : State) : Host.Outcome State Fault Refusal :=
  .next (s.branch (s.holds .lo) (s.target21 disp) 4)

/-- BHS, short displacement (44_jumps_linkage.md R190, R191). -/
def execBhsDisp9 (disp : BitVec 9) (s : State) : Host.Outcome State Fault Refusal :=
  .next (s.branch (s.holds .hs) (s.target9 disp) 2)

/-- BHS, medium displacement, small model (44_jumps_linkage.md R190, R192). -/
def execBhsDisp17 (disp : BitVec 17) (s : State) : Host.Outcome State Fault Refusal :=
  .next (s.branch (s.holds .hs) (s.target17 disp) 4)

/-- BHS, medium displacement, large model (44_jumps_linkage.md R190, R193). -/
def execBhsDisp21 (disp : BitVec 21) (s : State) : Host.Outcome State Fault Refusal :=
  .next (s.branch (s.holds .hs) (s.target21 disp) 4)

/-- BLT, short displacement (44_jumps_linkage.md R190, R191). -/
def execBltDisp9 (disp : BitVec 9) (s : State) : Host.Outcome State Fault Refusal :=
  .next (s.branch (s.holds .lt) (s.target9 disp) 2)

/-- BLT, medium displacement, small model (44_jumps_linkage.md R190, R192). -/
def execBltDisp17 (disp : BitVec 17) (s : State) : Host.Outcome State Fault Refusal :=
  .next (s.branch (s.holds .lt) (s.target17 disp) 4)

/-- BLT, medium displacement, large model (44_jumps_linkage.md R190, R193). -/
def execBltDisp21 (disp : BitVec 21) (s : State) : Host.Outcome State Fault Refusal :=
  .next (s.branch (s.holds .lt) (s.target21 disp) 4)

/-- BGE, short displacement (44_jumps_linkage.md R190, R191). -/
def execBgeDisp9 (disp : BitVec 9) (s : State) : Host.Outcome State Fault Refusal :=
  .next (s.branch (s.holds .ge) (s.target9 disp) 2)

/-- BGE, medium displacement, small model (44_jumps_linkage.md R190, R192). -/
def execBgeDisp17 (disp : BitVec 17) (s : State) : Host.Outcome State Fault Refusal :=
  .next (s.branch (s.holds .ge) (s.target17 disp) 4)

/-- BGE, medium displacement, large model (44_jumps_linkage.md R190, R193). -/
def execBgeDisp21 (disp : BitVec 21) (s : State) : Host.Outcome State Fault Refusal :=
  .next (s.branch (s.holds .ge) (s.target21 disp) 4)

/-- BR, short displacement (44_jumps_linkage.md R194). -/
def execBrDisp9 (disp : BitVec 9) (s : State) : Host.Outcome State Fault Refusal :=
  .next (s.setPc (s.target9 disp))

/-- BR, medium displacement, small model (44_jumps_linkage.md R194). -/
def execBrDisp17 (disp : BitVec 17) (s : State) : Host.Outcome State Fault Refusal :=
  .next (s.setPc (s.target17 disp))

/-- BR, medium displacement, large model (44_jumps_linkage.md R194). -/
def execBrDisp21 (disp : BitVec 21) (s : State) : Host.Outcome State Fault Refusal :=
  .next (s.setPc (s.target21 disp))

/-- BAL, small model (44_jumps_linkage.md R195). -/
def execBalSmall (link : Reg) (disp : BitVec 17) (s : State) : Host.Outcome State Fault Refusal :=
  .next ((s.linkOne link (s.pc + 4)).setPc (s.target17 disp))

/-- BAL, large model; links RA and SP are excluded (44_jumps_linkage.md R196, R197;
93_implementation_defined.md U11). -/
def execBalLarge (link : Reg) (disp : BitVec 21) (s : State) : Host.Outcome State Fault Refusal :=
  if excludedPair link then .refused .excludedRegisterPair
  else .next ((s.linkTwo link (s.pc + 4)).setPc (s.target21 disp))

end Sys2Proof.Machine
end

