-- ==== Sys2Proof/Machine/Compare.lean ====
section
/-! DEFINITION. CMP and compare-and-branch: 42_compare_logic_shift.md R160 to R165. -/

namespace Sys2Proof.Machine

/-- CMPB, register form (42_compare_logic_shift.md R160). -/
def execCmpbReg (src1 : Reg) (src2 : Reg) (s : State) : Host.Outcome State Fault Refusal :=
  .next (s.compare (s.regByte src1) (s.regByte src2) 2)

/-- CMPB, short immediate form (42_compare_logic_shift.md R160). -/
def execCmpbImm5 (imm : BitVec 5) (src2 : Reg) (s : State) : Host.Outcome State Fault Refusal :=
  .next (s.compare (immByte (shortImm imm)) (s.regByte src2) 2)

/-- CMPB, medium immediate form (42_compare_logic_shift.md R160). -/
def execCmpbImm16 (imm : BitVec 16) (src2 : Reg) (s : State) : Host.Outcome State Fault Refusal :=
  .next (s.compare (immByte imm) (s.regByte src2) 4)

/-- CMPW, register form (42_compare_logic_shift.md R160). -/
def execCmpwReg (src1 : Reg) (src2 : Reg) (s : State) : Host.Outcome State Fault Refusal :=
  .next (s.compare (s.reg src1) (s.reg src2) 2)

/-- CMPW, short immediate form (42_compare_logic_shift.md R160). -/
def execCmpwImm5 (imm : BitVec 5) (src2 : Reg) (s : State) : Host.Outcome State Fault Refusal :=
  .next (s.compare (shortImm imm) (s.reg src2) 2)

/-- CMPW, medium immediate form (42_compare_logic_shift.md R160). -/
def execCmpwImm16 (imm : BitVec 16) (src2 : Reg) (s : State) : Host.Outcome State Fault Refusal :=
  .next (s.compare imm (s.reg src2) 4)

/-- BEQ0B (42_compare_logic_shift.md R161, R162). -/
def execBeq0b (src : Restricted) (disp : BitVec 5) (s : State) : Host.Outcome State Fault Refusal :=
  .next (s.branch (s.regByte (restrictedReg src) == 0) (s.target5 disp) 2)

/-- BEQ0W (42_compare_logic_shift.md R161, R162). -/
def execBeq0w (src : Restricted) (disp : BitVec 5) (s : State) : Host.Outcome State Fault Refusal :=
  .next (s.branch (s.reg (restrictedReg src) == 0) (s.target5 disp) 2)

/-- BEQ1B (42_compare_logic_shift.md R161, R164). -/
def execBeq1b (src : Restricted) (disp : BitVec 5) (s : State) : Host.Outcome State Fault Refusal :=
  .next (s.branch (s.regByte (restrictedReg src) == 1) (s.target5 disp) 2)

/-- BEQ1W (42_compare_logic_shift.md R161, R164). -/
def execBeq1w (src : Restricted) (disp : BitVec 5) (s : State) : Host.Outcome State Fault Refusal :=
  .next (s.branch (s.reg (restrictedReg src) == 1) (s.target5 disp) 2)

/-- BNE0B (42_compare_logic_shift.md R161, R163). -/
def execBne0b (src : Restricted) (disp : BitVec 5) (s : State) : Host.Outcome State Fault Refusal :=
  .next (s.branch (s.regByte (restrictedReg src) != 0) (s.target5 disp) 2)

/-- BNE0W (42_compare_logic_shift.md R161, R163). -/
def execBne0w (src : Restricted) (disp : BitVec 5) (s : State) : Host.Outcome State Fault Refusal :=
  .next (s.branch (s.reg (restrictedReg src) != 0) (s.target5 disp) 2)

/-- BNE1B (42_compare_logic_shift.md R161, R165). -/
def execBne1b (src : Restricted) (disp : BitVec 5) (s : State) : Host.Outcome State Fault Refusal :=
  .next (s.branch (s.regByte (restrictedReg src) != 1) (s.target5 disp) 2)

/-- BNE1W (42_compare_logic_shift.md R161, R165). -/
def execBne1w (src : Restricted) (disp : BitVec 5) (s : State) : Host.Outcome State Fault Refusal :=
  .next (s.branch (s.reg (restrictedReg src) != 1) (s.target5 disp) 2)

end Sys2Proof.Machine
end

