-- ==== Sys2Proof/Machine/Jumps.lean ====
section
/-! DEFINITION. Jcond, JUMP and JAL: 44_jumps_linkage.md R198 to R202. -/

namespace Sys2Proof.Machine

/-- JEQ, small model (44_jumps_linkage.md R190, R198). -/
def execJeqSmall (target : Reg) (s : State) : Host.Outcome State Fault Refusal :=
  .next (s.branch (s.holds .eq) (codeSmall (s.reg target)) 2)

/-- JEQ, large model (44_jumps_linkage.md R190, R199). -/
def execJeqLarge (target : Reg) (s : State) : Host.Outcome State Fault Refusal :=
  s.jumpPair (s.holds .eq) target

/-- JNE, small model (44_jumps_linkage.md R190, R198). -/
def execJneSmall (target : Reg) (s : State) : Host.Outcome State Fault Refusal :=
  .next (s.branch (s.holds .ne) (codeSmall (s.reg target)) 2)

/-- JNE, large model (44_jumps_linkage.md R190, R199). -/
def execJneLarge (target : Reg) (s : State) : Host.Outcome State Fault Refusal :=
  s.jumpPair (s.holds .ne) target

/-- JCS, small model (44_jumps_linkage.md R190, R198). -/
def execJcsSmall (target : Reg) (s : State) : Host.Outcome State Fault Refusal :=
  .next (s.branch (s.holds .cs) (codeSmall (s.reg target)) 2)

/-- JCS, large model (44_jumps_linkage.md R190, R199). -/
def execJcsLarge (target : Reg) (s : State) : Host.Outcome State Fault Refusal :=
  s.jumpPair (s.holds .cs) target

/-- JCC, small model (44_jumps_linkage.md R190, R198). -/
def execJccSmall (target : Reg) (s : State) : Host.Outcome State Fault Refusal :=
  .next (s.branch (s.holds .cc) (codeSmall (s.reg target)) 2)

/-- JCC, large model (44_jumps_linkage.md R190, R199). -/
def execJccLarge (target : Reg) (s : State) : Host.Outcome State Fault Refusal :=
  s.jumpPair (s.holds .cc) target

/-- JHI, small model (44_jumps_linkage.md R190, R198). -/
def execJhiSmall (target : Reg) (s : State) : Host.Outcome State Fault Refusal :=
  .next (s.branch (s.holds .hi) (codeSmall (s.reg target)) 2)

/-- JHI, large model (44_jumps_linkage.md R190, R199). -/
def execJhiLarge (target : Reg) (s : State) : Host.Outcome State Fault Refusal :=
  s.jumpPair (s.holds .hi) target

/-- JLS, small model (44_jumps_linkage.md R190, R198). -/
def execJlsSmall (target : Reg) (s : State) : Host.Outcome State Fault Refusal :=
  .next (s.branch (s.holds .ls) (codeSmall (s.reg target)) 2)

/-- JLS, large model (44_jumps_linkage.md R190, R199). -/
def execJlsLarge (target : Reg) (s : State) : Host.Outcome State Fault Refusal :=
  s.jumpPair (s.holds .ls) target

/-- JGT, small model (44_jumps_linkage.md R190, R198). -/
def execJgtSmall (target : Reg) (s : State) : Host.Outcome State Fault Refusal :=
  .next (s.branch (s.holds .gt) (codeSmall (s.reg target)) 2)

/-- JGT, large model (44_jumps_linkage.md R190, R199). -/
def execJgtLarge (target : Reg) (s : State) : Host.Outcome State Fault Refusal :=
  s.jumpPair (s.holds .gt) target

/-- JLE, small model (44_jumps_linkage.md R190, R198). -/
def execJleSmall (target : Reg) (s : State) : Host.Outcome State Fault Refusal :=
  .next (s.branch (s.holds .le) (codeSmall (s.reg target)) 2)

/-- JLE, large model (44_jumps_linkage.md R190, R199). -/
def execJleLarge (target : Reg) (s : State) : Host.Outcome State Fault Refusal :=
  s.jumpPair (s.holds .le) target

/-- JFS, small model (44_jumps_linkage.md R190, R198). -/
def execJfsSmall (target : Reg) (s : State) : Host.Outcome State Fault Refusal :=
  .next (s.branch (s.holds .fs) (codeSmall (s.reg target)) 2)

/-- JFS, large model (44_jumps_linkage.md R190, R199). -/
def execJfsLarge (target : Reg) (s : State) : Host.Outcome State Fault Refusal :=
  s.jumpPair (s.holds .fs) target

/-- JFC, small model (44_jumps_linkage.md R190, R198). -/
def execJfcSmall (target : Reg) (s : State) : Host.Outcome State Fault Refusal :=
  .next (s.branch (s.holds .fc) (codeSmall (s.reg target)) 2)

/-- JFC, large model (44_jumps_linkage.md R190, R199). -/
def execJfcLarge (target : Reg) (s : State) : Host.Outcome State Fault Refusal :=
  s.jumpPair (s.holds .fc) target

/-- JLO, small model (44_jumps_linkage.md R190, R198). -/
def execJloSmall (target : Reg) (s : State) : Host.Outcome State Fault Refusal :=
  .next (s.branch (s.holds .lo) (codeSmall (s.reg target)) 2)

/-- JLO, large model (44_jumps_linkage.md R190, R199). -/
def execJloLarge (target : Reg) (s : State) : Host.Outcome State Fault Refusal :=
  s.jumpPair (s.holds .lo) target

/-- JHS, small model (44_jumps_linkage.md R190, R198). -/
def execJhsSmall (target : Reg) (s : State) : Host.Outcome State Fault Refusal :=
  .next (s.branch (s.holds .hs) (codeSmall (s.reg target)) 2)

/-- JHS, large model (44_jumps_linkage.md R190, R199). -/
def execJhsLarge (target : Reg) (s : State) : Host.Outcome State Fault Refusal :=
  s.jumpPair (s.holds .hs) target

/-- JLT, small model (44_jumps_linkage.md R190, R198). -/
def execJltSmall (target : Reg) (s : State) : Host.Outcome State Fault Refusal :=
  .next (s.branch (s.holds .lt) (codeSmall (s.reg target)) 2)

/-- JLT, large model (44_jumps_linkage.md R190, R199). -/
def execJltLarge (target : Reg) (s : State) : Host.Outcome State Fault Refusal :=
  s.jumpPair (s.holds .lt) target

/-- JGE, small model (44_jumps_linkage.md R190, R198). -/
def execJgeSmall (target : Reg) (s : State) : Host.Outcome State Fault Refusal :=
  .next (s.branch (s.holds .ge) (codeSmall (s.reg target)) 2)

/-- JGE, large model (44_jumps_linkage.md R190, R199). -/
def execJgeLarge (target : Reg) (s : State) : Host.Outcome State Fault Refusal :=
  s.jumpPair (s.holds .ge) target

/-- JUMP, small model (44_jumps_linkage.md R200). -/
def execJumpSmall (target : Reg) (s : State) : Host.Outcome State Fault Refusal :=
  .next (s.setPc (codeSmall (s.reg target)))

/-- JUMP, large model (44_jumps_linkage.md R200). -/
def execJumpLarge (target : Reg) (s : State) : Host.Outcome State Fault Refusal :=
  s.jumpPair true target

/-- JAL, small model: the target is read before the link is written (44_jumps_linkage.md R201;
92_eei_decisions.md D16). -/
def execJalSmall (link : Reg) (target : Reg) (s : State) : Host.Outcome State Fault Refusal :=
  .next ((s.linkOne link (s.pc + 2)).setPc (codeSmall (s.reg target)))

/-- JAL, large model: the target pair is read before the link pair is written; excluded and overlapping
unequal pairs have no stated effect (44_jumps_linkage.md R202; 93_implementation_defined.md U11). -/
def execJalLarge (link : Reg) (target : Reg) (s : State) : Host.Outcome State Fault Refusal :=
  if excludedPair link || excludedPair target || overlap link target then .refused .excludedRegisterPair
  else
    .next ((s.linkTwo link (s.pc + 2)).setPc
      (codeLarge (s.reg (pairHigh target)) (s.reg target)))

end Sys2Proof.Machine
end

