-- ==== Sys2Proof/Machine/LoadStore.lean ====
section
/-! DEFINITION. LOADi, STORi, LOADM and STORM: 45_procreg_loadstore_misc.md R224 to R237. -/

namespace Sys2Proof.Machine

/-- LOADB: the high byte of dest stays (45_procreg_loadstore_misc.md R230). -/
def State.loadByteInto (s : State) (dest : Reg) (ea : Addr) (len : Addr) : State :=
  ((s.readByte ea).2.setRegByte dest (s.readByte ea).1).advance len

/-- LOADW (45_procreg_loadstore_misc.md R231). -/
def State.loadWordInto (s : State) (dest : Reg) (ea : Addr) (len : Addr) : State :=
  ((s.readWord ea).2.setReg dest (s.readWord ea).1).advance len

/-- STORB (45_procreg_loadstore_misc.md R232, R234). -/
def State.storeByteAt (s : State) (ea : Addr) (v : Byte) (len : Addr) : State :=
  (s.writeByte ea v).advance len

/-- STORW (45_procreg_loadstore_misc.md R233, R235). -/
def State.storeWordAt (s : State) (ea : Addr) (v : Word) (len : Addr) : State :=
  (s.writeWord ea v).advance len

/-- LOADM: the pointer is R0, the first register R2 (45_procreg_loadstore_misc.md R236). -/
def execLoadm (rcnt : BitVec 2) (s : State) : Host.Outcome State Fault Refusal :=
  .next (((s.loadRegs (s.reg 0) (regRun 2 (countOf rcnt))).setReg 0 (s.reg 0 + runBytes rcnt)).advance 2)

/-- STORM: the pointer is R1, the first register R2 (45_procreg_loadstore_misc.md R237). -/
def execStorm (rcnt : BitVec 2) (s : State) : Host.Outcome State Fault Refusal :=
  .next (((s.storeWords (s.reg 1) ((regRun 2 (countOf rcnt)).map s.reg)).setReg 1
    (s.reg 1 + runBytes rcnt)).advance 2)

/-- LOADB, disp5(Rbase) (45_procreg_loadstore_misc.md R225, R230). -/
def execLoadbDisp5 (disp : BitVec 5) (base : Reg) (dest : Reg) (s : State) : Host.Outcome State Fault Refusal :=
  .next (s.loadByteInto dest (s.eaDisp5 base disp) 2)

/-- LOADB, disp18(Rbase) (45_procreg_loadstore_misc.md R226, R230). -/
def execLoadbDisp18 (disp : BitVec 18) (base : Reg) (dest : Reg) (s : State) : Host.Outcome State Fault Refusal :=
  .next (s.loadByteInto dest (s.eaDisp18 base disp) 4)

/-- LOADB, disp18(Rbase+1, Rbase) (45_procreg_loadstore_misc.md R227, R230). -/
def execLoadbFar (disp : BitVec 18) (base : Reg) (dest : Reg) (s : State) : Host.Outcome State Fault Refusal :=
  .next (s.loadByteInto dest (s.eaFar base disp) 4)

/-- LOADB, abs18 (45_procreg_loadstore_misc.md R228, R230). -/
def execLoadbAbs (addr : BitVec 18) (dest : Reg) (s : State) : Host.Outcome State Fault Refusal :=
  .next (s.loadByteInto dest (eaAbs addr) 4)

/-- LOADW, disp5(Rbase) (45_procreg_loadstore_misc.md R225, R231). -/
def execLoadwDisp5 (disp : BitVec 5) (base : Reg) (dest : Reg) (s : State) : Host.Outcome State Fault Refusal :=
  .next (s.loadWordInto dest (s.eaDisp5 base disp) 2)

/-- LOADW, disp18(Rbase) (45_procreg_loadstore_misc.md R226, R231). -/
def execLoadwDisp18 (disp : BitVec 18) (base : Reg) (dest : Reg) (s : State) : Host.Outcome State Fault Refusal :=
  .next (s.loadWordInto dest (s.eaDisp18 base disp) 4)

/-- LOADW, disp18(Rbase+1, Rbase) (45_procreg_loadstore_misc.md R227, R231). -/
def execLoadwFar (disp : BitVec 18) (base : Reg) (dest : Reg) (s : State) : Host.Outcome State Fault Refusal :=
  .next (s.loadWordInto dest (s.eaFar base disp) 4)

/-- LOADW, abs18 (45_procreg_loadstore_misc.md R228, R231). -/
def execLoadwAbs (addr : BitVec 18) (dest : Reg) (s : State) : Host.Outcome State Fault Refusal :=
  .next (s.loadWordInto dest (eaAbs addr) 4)

/-- STORB, disp5(Rbase) (45_procreg_loadstore_misc.md R225, R232). -/
def execStorbDisp5 (src : Reg) (disp : BitVec 5) (base : Reg) (s : State) : Host.Outcome State Fault Refusal :=
  .next (s.storeByteAt (s.eaDisp5 base disp) (s.regByte src) 2)

/-- STORB, disp18(Rbase) (45_procreg_loadstore_misc.md R226, R232). -/
def execStorbDisp18 (src : Reg) (disp : BitVec 18) (base : Reg) (s : State) : Host.Outcome State Fault Refusal :=
  .next (s.storeByteAt (s.eaDisp18 base disp) (s.regByte src) 4)

/-- STORB, disp18(Rbase+1, Rbase) (45_procreg_loadstore_misc.md R227, R232). -/
def execStorbFar (src : Reg) (disp : BitVec 18) (base : Reg) (s : State) : Host.Outcome State Fault Refusal :=
  .next (s.storeByteAt (s.eaFar base disp) (s.regByte src) 4)

/-- STORB, abs18 (45_procreg_loadstore_misc.md R228, R232). -/
def execStorbAbs (src : Reg) (addr : BitVec 18) (s : State) : Host.Outcome State Fault Refusal :=
  .next (s.storeByteAt (eaAbs addr) (s.regByte src) 4)

/-- STORW, disp5(Rbase) (45_procreg_loadstore_misc.md R225, R233). -/
def execStorwDisp5 (src : Reg) (disp : BitVec 5) (base : Reg) (s : State) : Host.Outcome State Fault Refusal :=
  .next (s.storeWordAt (s.eaDisp5 base disp) (s.reg src) 2)

/-- STORW, disp18(Rbase) (45_procreg_loadstore_misc.md R226, R233). -/
def execStorwDisp18 (src : Reg) (disp : BitVec 18) (base : Reg) (s : State) : Host.Outcome State Fault Refusal :=
  .next (s.storeWordAt (s.eaDisp18 base disp) (s.reg src) 4)

/-- STORW, disp18(Rbase+1, Rbase) (45_procreg_loadstore_misc.md R227, R233). -/
def execStorwFar (src : Reg) (disp : BitVec 18) (base : Reg) (s : State) : Host.Outcome State Fault Refusal :=
  .next (s.storeWordAt (s.eaFar base disp) (s.reg src) 4)

/-- STORW, abs18 (45_procreg_loadstore_misc.md R228, R233). -/
def execStorwAbs (src : Reg) (addr : BitVec 18) (s : State) : Host.Outcome State Fault Refusal :=
  .next (s.storeWordAt (eaAbs addr) (s.reg src) 4)

/-- STORB $imm4, 0(Rbase) (45_procreg_loadstore_misc.md R229, R234). -/
def execStorbImmBase (imm : BitVec 4) (base : Restricted) (s : State) : Host.Outcome State Fault Refusal :=
  .next (s.storeByteAt (s.eaBase base) (s.imm4Byte imm) 2)

/-- STORB $imm4, disp16(Rbase) (45_procreg_loadstore_misc.md R229, R234). -/
def execStorbImmDisp16 (imm : BitVec 4) (disp : BitVec 16) (base : Restricted) (s : State) : Host.Outcome State Fault Refusal :=
  .next (s.storeByteAt (s.eaDisp16 base disp) (s.imm4Byte imm) 4)

/-- STORB $imm4, abs18 (45_procreg_loadstore_misc.md R229, R234). -/
def execStorbImmAbs (imm : BitVec 4) (addr : BitVec 18) (s : State) : Host.Outcome State Fault Refusal :=
  .next (s.storeByteAt (eaAbs addr) (s.imm4Byte imm) 4)

/-- STORW $imm4, 0(Rbase) (45_procreg_loadstore_misc.md R229, R235). -/
def execStorwImmBase (imm : BitVec 4) (base : Restricted) (s : State) : Host.Outcome State Fault Refusal :=
  .next (s.storeWordAt (s.eaBase base) (s.imm4Word imm) 2)

/-- STORW $imm4, disp16(Rbase) (45_procreg_loadstore_misc.md R229, R235). -/
def execStorwImmDisp16 (imm : BitVec 4) (disp : BitVec 16) (base : Restricted) (s : State) : Host.Outcome State Fault Refusal :=
  .next (s.storeWordAt (s.eaDisp16 base disp) (s.imm4Word imm) 4)

/-- STORW $imm4, abs18 (45_procreg_loadstore_misc.md R229, R235). -/
def execStorwImmAbs (imm : BitVec 4) (addr : BitVec 18) (s : State) : Host.Outcome State Fault Refusal :=
  .next (s.storeWordAt (eaAbs addr) (s.imm4Word imm) 4)

end Sys2Proof.Machine
end

