-- ==== Sys2Proof/Machine/Logic.lean ====
section
/-! DEFINITION. AND, OR, XOR and Scond: 42_compare_logic_shift.md R166 to R169. -/

namespace Sys2Proof.Machine

/-- XORB, register form (42_compare_logic_shift.md R168). -/
def execXorbReg (src : Reg) (dest : Reg) (s : State) : Host.Outcome State Fault Refusal :=
  .next (s.resultByte dest (s.regByte dest ^^^ s.regByte src) 2)

/-- XORB, short immediate form (42_compare_logic_shift.md R168). -/
def execXorbImm5 (imm : BitVec 5) (dest : Reg) (s : State) : Host.Outcome State Fault Refusal :=
  .next (s.resultByte dest (s.regByte dest ^^^ immByte (shortImm imm)) 2)

/-- XORB, medium immediate form (42_compare_logic_shift.md R168). -/
def execXorbImm16 (imm : BitVec 16) (dest : Reg) (s : State) : Host.Outcome State Fault Refusal :=
  .next (s.resultByte dest (s.regByte dest ^^^ immByte imm) 4)

/-- XORW, register form (42_compare_logic_shift.md R168). -/
def execXorwReg (src : Reg) (dest : Reg) (s : State) : Host.Outcome State Fault Refusal :=
  .next (s.resultWord dest (s.reg dest ^^^ s.reg src) 2)

/-- XORW, short immediate form (42_compare_logic_shift.md R168). -/
def execXorwImm5 (imm : BitVec 5) (dest : Reg) (s : State) : Host.Outcome State Fault Refusal :=
  .next (s.resultWord dest (s.reg dest ^^^ shortImm imm) 2)

/-- XORW, medium immediate form (42_compare_logic_shift.md R168). -/
def execXorwImm16 (imm : BitVec 16) (dest : Reg) (s : State) : Host.Outcome State Fault Refusal :=
  .next (s.resultWord dest (s.reg dest ^^^ imm) 4)

/-- ANDB, register form (42_compare_logic_shift.md R166). -/
def execAndbReg (src : Reg) (dest : Reg) (s : State) : Host.Outcome State Fault Refusal :=
  .next (s.resultByte dest (s.regByte dest &&& s.regByte src) 2)

/-- ANDB, short immediate form (42_compare_logic_shift.md R166). -/
def execAndbImm5 (imm : BitVec 5) (dest : Reg) (s : State) : Host.Outcome State Fault Refusal :=
  .next (s.resultByte dest (s.regByte dest &&& immByte (shortImm imm)) 2)

/-- ANDB, medium immediate form (42_compare_logic_shift.md R166). -/
def execAndbImm16 (imm : BitVec 16) (dest : Reg) (s : State) : Host.Outcome State Fault Refusal :=
  .next (s.resultByte dest (s.regByte dest &&& immByte imm) 4)

/-- ANDW, register form (42_compare_logic_shift.md R166). -/
def execAndwReg (src : Reg) (dest : Reg) (s : State) : Host.Outcome State Fault Refusal :=
  .next (s.resultWord dest (s.reg dest &&& s.reg src) 2)

/-- ANDW, short immediate form (42_compare_logic_shift.md R166). -/
def execAndwImm5 (imm : BitVec 5) (dest : Reg) (s : State) : Host.Outcome State Fault Refusal :=
  .next (s.resultWord dest (s.reg dest &&& shortImm imm) 2)

/-- ANDW, medium immediate form (42_compare_logic_shift.md R166). -/
def execAndwImm16 (imm : BitVec 16) (dest : Reg) (s : State) : Host.Outcome State Fault Refusal :=
  .next (s.resultWord dest (s.reg dest &&& imm) 4)

/-- ORB, register form (42_compare_logic_shift.md R167). -/
def execOrbReg (src : Reg) (dest : Reg) (s : State) : Host.Outcome State Fault Refusal :=
  .next (s.resultByte dest (s.regByte dest ||| s.regByte src) 2)

/-- ORB, short immediate form (42_compare_logic_shift.md R167). -/
def execOrbImm5 (imm : BitVec 5) (dest : Reg) (s : State) : Host.Outcome State Fault Refusal :=
  .next (s.resultByte dest (s.regByte dest ||| immByte (shortImm imm)) 2)

/-- ORB, medium immediate form (42_compare_logic_shift.md R167). -/
def execOrbImm16 (imm : BitVec 16) (dest : Reg) (s : State) : Host.Outcome State Fault Refusal :=
  .next (s.resultByte dest (s.regByte dest ||| immByte imm) 4)

/-- ORW, register form (42_compare_logic_shift.md R167). -/
def execOrwReg (src : Reg) (dest : Reg) (s : State) : Host.Outcome State Fault Refusal :=
  .next (s.resultWord dest (s.reg dest ||| s.reg src) 2)

/-- ORW, short immediate form (42_compare_logic_shift.md R167). -/
def execOrwImm5 (imm : BitVec 5) (dest : Reg) (s : State) : Host.Outcome State Fault Refusal :=
  .next (s.resultWord dest (s.reg dest ||| shortImm imm) 2)

/-- ORW, medium immediate form (42_compare_logic_shift.md R167). -/
def execOrwImm16 (imm : BitVec 16) (dest : Reg) (s : State) : Host.Outcome State Fault Refusal :=
  .next (s.resultWord dest (s.reg dest ||| imm) 4)

/-- SEQ: all 16 bits are written (42_compare_logic_shift.md R169). -/
def execSeq (dest : Reg) (s : State) : Host.Outcome State Fault Refusal :=
  .next (s.resultWord dest (if s.holds .eq then 1 else 0) 2)

/-- SNE: all 16 bits are written (42_compare_logic_shift.md R169). -/
def execSne (dest : Reg) (s : State) : Host.Outcome State Fault Refusal :=
  .next (s.resultWord dest (if s.holds .ne then 1 else 0) 2)

/-- SCS: all 16 bits are written (42_compare_logic_shift.md R169). -/
def execScs (dest : Reg) (s : State) : Host.Outcome State Fault Refusal :=
  .next (s.resultWord dest (if s.holds .cs then 1 else 0) 2)

/-- SCC: all 16 bits are written (42_compare_logic_shift.md R169). -/
def execScc (dest : Reg) (s : State) : Host.Outcome State Fault Refusal :=
  .next (s.resultWord dest (if s.holds .cc then 1 else 0) 2)

/-- SHI: all 16 bits are written (42_compare_logic_shift.md R169). -/
def execShi (dest : Reg) (s : State) : Host.Outcome State Fault Refusal :=
  .next (s.resultWord dest (if s.holds .hi then 1 else 0) 2)

/-- SLS: all 16 bits are written (42_compare_logic_shift.md R169). -/
def execSls (dest : Reg) (s : State) : Host.Outcome State Fault Refusal :=
  .next (s.resultWord dest (if s.holds .ls then 1 else 0) 2)

/-- SGT: all 16 bits are written (42_compare_logic_shift.md R169). -/
def execSgt (dest : Reg) (s : State) : Host.Outcome State Fault Refusal :=
  .next (s.resultWord dest (if s.holds .gt then 1 else 0) 2)

/-- SLE: all 16 bits are written (42_compare_logic_shift.md R169). -/
def execSle (dest : Reg) (s : State) : Host.Outcome State Fault Refusal :=
  .next (s.resultWord dest (if s.holds .le then 1 else 0) 2)

/-- SFS: all 16 bits are written (42_compare_logic_shift.md R169). -/
def execSfs (dest : Reg) (s : State) : Host.Outcome State Fault Refusal :=
  .next (s.resultWord dest (if s.holds .fs then 1 else 0) 2)

/-- SFC: all 16 bits are written (42_compare_logic_shift.md R169). -/
def execSfc (dest : Reg) (s : State) : Host.Outcome State Fault Refusal :=
  .next (s.resultWord dest (if s.holds .fc then 1 else 0) 2)

/-- SLO: all 16 bits are written (42_compare_logic_shift.md R169). -/
def execSlo (dest : Reg) (s : State) : Host.Outcome State Fault Refusal :=
  .next (s.resultWord dest (if s.holds .lo then 1 else 0) 2)

/-- SHS: all 16 bits are written (42_compare_logic_shift.md R169). -/
def execShs (dest : Reg) (s : State) : Host.Outcome State Fault Refusal :=
  .next (s.resultWord dest (if s.holds .hs then 1 else 0) 2)

/-- SLT: all 16 bits are written (42_compare_logic_shift.md R169). -/
def execSlt (dest : Reg) (s : State) : Host.Outcome State Fault Refusal :=
  .next (s.resultWord dest (if s.holds .lt then 1 else 0) 2)

/-- SGE: all 16 bits are written (42_compare_logic_shift.md R169). -/
def execSge (dest : Reg) (s : State) : Host.Outcome State Fault Refusal :=
  .next (s.resultWord dest (if s.holds .ge then 1 else 0) 2)

end Sys2Proof.Machine
end

