-- ==== Sys2Proof/Machine/Misc.lean ====
section
/-! DEFINITION. EXCP, RETX, DI, EI, NOP, WAIT, EIWAIT: 44_jumps_linkage.md R203, R204,
45_procreg_loadstore_misc.md R238 to R242. -/

namespace Sys2Proof.Machine

/-- The trap of an EXCP vector; every reserved vector is UND (44_jumps_linkage.md R203; 30_encoding.md R110). -/
def excpTrap (vector : BitVec 4) : Exception :=
  match vector with
  | 5#4 => .svc
  | 6#4 => .dvz
  | 7#4 => .flg
  | 8#4 => .bpt
  | _ => .und

/-- NOP (45_procreg_loadstore_misc.md R240). -/
def execNop (s : State) : Host.Outcome State Fault Refusal :=
  .next (s.advance 2)

/-- RETX (44_jumps_linkage.md R204). -/
def execRetx (s : State) : Host.Outcome State Fault Refusal :=
  .next s.returnFromException

/-- EXCP: takes the trap of its vector, the saved PC its own address (44_jumps_linkage.md R203). -/
def execExcp (vector : BitVec 4) (s : State) : Host.Outcome State Fault Refusal :=
  .next (s.takeException (excpTrap vector) s.pc)

/-- DI (45_procreg_loadstore_misc.md R238). -/
def execDi (s : State) : Host.Outcome State Fault Refusal :=
  .next ((s.setFlag psrE false).advance 2)

/-- EI (45_procreg_loadstore_misc.md R239). -/
def execEi (s : State) : Host.Outcome State Fault Refusal :=
  .next ((s.setFlag psrE true).advance 2)

/-- EIWAIT: E is set in the same instruction (45_procreg_loadstore_misc.md R242). -/
def execEiwait (s : State) : Host.Outcome State Fault Refusal :=
  .next (((s.setFlag psrE true).advance 2).setOpState .waiting)

/-- WAIT (45_procreg_loadstore_misc.md R241). -/
def execWait (s : State) : Host.Outcome State Fault Refusal :=
  .next ((s.advance 2).setOpState .waiting)

end Sys2Proof.Machine
end

