-- ==== Sys2Proof/Machine/Moves.lean ====
section
/-! DEFINITION. MOVB, MOVW, MOVD, MOVXB, MOVZB: 40_moves.md. -/

namespace Sys2Proof.Machine

/-- MOVB, register form (40_moves.md R130). -/
def execMovbReg (src : Reg) (dest : Reg) (s : State) : Host.Outcome State Fault Refusal :=
  .next (s.resultByte dest (s.regByte src) 2)

/-- MOVB, short immediate form (40_moves.md R130). -/
def execMovbImm5 (imm : BitVec 5) (dest : Reg) (s : State) : Host.Outcome State Fault Refusal :=
  .next (s.resultByte dest (immByte (shortImm imm)) 2)

/-- MOVB, medium immediate form (40_moves.md R130). -/
def execMovbImm16 (imm : BitVec 16) (dest : Reg) (s : State) : Host.Outcome State Fault Refusal :=
  .next (s.resultByte dest (immByte imm) 4)

/-- MOVW, register form (40_moves.md R131). -/
def execMovwReg (src : Reg) (dest : Reg) (s : State) : Host.Outcome State Fault Refusal :=
  .next (s.resultWord dest (s.reg src) 2)

/-- MOVW, short immediate form (40_moves.md R131). -/
def execMovwImm5 (imm : BitVec 5) (dest : Reg) (s : State) : Host.Outcome State Fault Refusal :=
  .next (s.resultWord dest (shortImm imm) 2)

/-- MOVW, medium immediate form (40_moves.md R131). -/
def execMovwImm16 (imm : BitVec 16) (dest : Reg) (s : State) : Host.Outcome State Fault Refusal :=
  .next (s.resultWord dest imm 4)

/-- MOVD (40_moves.md R132); the pair of R15 does not exist (93_implementation_defined.md U11). -/
def execMovd (imm : BitVec 21) (dest : Reg) (s : State) : Host.Outcome State Fault Refusal :=
  withPair dest (s.resultPair dest (imm.setWidth 32) 4)

/-- MOVXB (40_moves.md R133). -/
def execMovxb (src : Reg) (dest : Reg) (s : State) : Host.Outcome State Fault Refusal :=
  .next (s.resultWord dest ((s.regByte src).signExtend 16) 2)

/-- MOVZB (40_moves.md R134). -/
def execMovzb (src : Reg) (dest : Reg) (s : State) : Host.Outcome State Fault Refusal :=
  .next (s.resultWord dest ((s.regByte src).setWidth 16) 2)

end Sys2Proof.Machine
end

