-- ==== Sys2Proof/Machine/Multiply.lean ====
section
/-! DEFINITION. MUL, MULSB, MULSW, MULUW: 41_arithmetic.md R145 to R152. -/

namespace Sys2Proof.Machine

/-- MULB, register form (41_arithmetic.md R145, R149). -/
def execMulbReg (src : Reg) (dest : Reg) (s : State) : Host.Outcome State Fault Refusal :=
  .next (s.multiply (s.resultByte dest (s.regByte dest * s.regByte src) 2))

/-- MULB, short immediate form (41_arithmetic.md R145, R149). -/
def execMulbImm5 (imm : BitVec 5) (dest : Reg) (s : State) : Host.Outcome State Fault Refusal :=
  .next (s.multiply (s.resultByte dest (s.regByte dest * immByte (shortImm imm)) 2))

/-- MULB, medium immediate form (41_arithmetic.md R145, R149). -/
def execMulbImm16 (imm : BitVec 16) (dest : Reg) (s : State) : Host.Outcome State Fault Refusal :=
  .next (s.multiply (s.resultByte dest (s.regByte dest * immByte imm) 4))

/-- MULW, register form (41_arithmetic.md R145, R149). -/
def execMulwReg (src : Reg) (dest : Reg) (s : State) : Host.Outcome State Fault Refusal :=
  .next (s.multiply (s.resultWord dest (s.reg dest * s.reg src) 2))

/-- MULW, short immediate form (41_arithmetic.md R145, R149). -/
def execMulwImm5 (imm : BitVec 5) (dest : Reg) (s : State) : Host.Outcome State Fault Refusal :=
  .next (s.multiply (s.resultWord dest (s.reg dest * shortImm imm) 2))

/-- MULW, medium immediate form (41_arithmetic.md R145, R149). -/
def execMulwImm16 (imm : BitVec 16) (dest : Reg) (s : State) : Host.Outcome State Fault Refusal :=
  .next (s.multiply (s.resultWord dest (s.reg dest * imm) 4))

/-- MULSB (41_arithmetic.md R146, R149). -/
def execMulsb (src : Reg) (dest : Reg) (s : State) : Host.Outcome State Fault Refusal :=
  .next (s.multiply (s.resultWord dest (BitVec.ofInt 16 ((s.regByte src).toInt * (s.regByte dest).toInt)) 2))

/-- MULSW (41_arithmetic.md R151, R149); the pair of R15 does not exist (93_implementation_defined.md U11). -/
def execMulsw (src : Reg) (dest : Reg) (s : State) : Host.Outcome State Fault Refusal :=
  withPair dest
    (s.multiply (s.resultPair dest (BitVec.ofInt 32 ((s.reg src).toInt * (s.reg dest).toInt)) 2))

/-- MULUW (41_arithmetic.md R152, R149); the pair of R15 does not exist (93_implementation_defined.md U11). -/
def execMuluw (src : Restricted) (dest : Reg) (s : State) : Host.Outcome State Fault Refusal :=
  withPair dest
    (s.multiply
      (s.resultPair dest (BitVec.ofNat 32 ((s.reg (restrictedReg src)).toNat * (s.reg dest).toNat)) 2))

end Sys2Proof.Machine
end

