-- ==== Sys2Proof/Machine/ProcReg.lean ====
section
/-! DEFINITION. LPR and SPR: 45_procreg_loadstore_misc.md R220 to R223. -/

namespace Sys2Proof.Machine

/-- LPR: serializing; an unassigned code writes nothing (45_procreg_loadstore_misc.md R220, R222;
93_implementation_defined.md U2). -/
def execLpr (src : Reg) (rproc : BitVec 4) (s : State) : Host.Outcome State Fault Refusal :=
  match procRegOf rproc with
  | some p => .next ((s.writeProc p (s.reg src)).advance 2).serialize
  | none => .next (s.advance 2).serialize

/-- SPR: serializing; an unassigned code gives any value (45_procreg_loadstore_misc.md R221, R222;
93_implementation_defined.md U2). -/
def execSpr (rproc : BitVec 4) (dest : Reg) (s : State) : Host.Outcome State Fault Refusal :=
  match procRegOf rproc with
  | some p => .next ((s.readProc p).2.resultWord dest (s.readProc p).1 2).serialize
  | none => .next (s.drawWord.2.resultWord dest s.drawWord.1 2).serialize

end Sys2Proof.Machine
end

