-- ==== Sys2Proof/Machine/Shift.lean ====
section
/-! DEFINITION. ASHU and LSH: 42_compare_logic_shift.md R170 to R173. -/

namespace Sys2Proof.Machine

/-- ASHUB, register form (42_compare_logic_shift.md R170, R171). -/
def execAshubReg (count : Reg) (dest : Reg) (s : State) : Host.Outcome State Fault Refusal :=
  .next (s.shiftByte dest (ashift (s.regByte dest) (shiftCount (s.reg count))) 2)

/-- ASHUB, short immediate form (42_compare_logic_shift.md R170, R171). -/
def execAshubImm5 (count : BitVec 5) (dest : Reg) (s : State) : Host.Outcome State Fault Refusal :=
  .next (s.shiftByte dest (ashift (s.regByte dest) (shiftCount (shortImm count))) 2)

/-- ASHUB, medium immediate form (42_compare_logic_shift.md R170, R171). -/
def execAshubImm16 (count : BitVec 16) (dest : Reg) (s : State) : Host.Outcome State Fault Refusal :=
  .next (s.shiftByte dest (ashift (s.regByte dest) (shiftCount count)) 4)

/-- ASHUW, register form (42_compare_logic_shift.md R170, R171). -/
def execAshuwReg (count : Reg) (dest : Reg) (s : State) : Host.Outcome State Fault Refusal :=
  .next (s.shiftWord dest (ashift (s.reg dest) (shiftCount (s.reg count))) 2)

/-- ASHUW, short immediate form (42_compare_logic_shift.md R170, R171). -/
def execAshuwImm5 (count : BitVec 5) (dest : Reg) (s : State) : Host.Outcome State Fault Refusal :=
  .next (s.shiftWord dest (ashift (s.reg dest) (shiftCount (shortImm count))) 2)

/-- ASHUW, medium immediate form (42_compare_logic_shift.md R170, R171). -/
def execAshuwImm16 (count : BitVec 16) (dest : Reg) (s : State) : Host.Outcome State Fault Refusal :=
  .next (s.shiftWord dest (ashift (s.reg dest) (shiftCount count)) 4)

/-- LSHB, register form (42_compare_logic_shift.md R170, R172). -/
def execLshbReg (count : Reg) (dest : Reg) (s : State) : Host.Outcome State Fault Refusal :=
  .next (s.shiftByte dest (lshift (s.regByte dest) (shiftCount (s.reg count))) 2)

/-- LSHB, short immediate form (42_compare_logic_shift.md R170, R172). -/
def execLshbImm5 (count : BitVec 5) (dest : Reg) (s : State) : Host.Outcome State Fault Refusal :=
  .next (s.shiftByte dest (lshift (s.regByte dest) (shiftCount (shortImm count))) 2)

/-- LSHB, medium immediate form (42_compare_logic_shift.md R170, R172). -/
def execLshbImm16 (count : BitVec 16) (dest : Reg) (s : State) : Host.Outcome State Fault Refusal :=
  .next (s.shiftByte dest (lshift (s.regByte dest) (shiftCount count)) 4)

/-- LSHW, register form (42_compare_logic_shift.md R170, R172). -/
def execLshwReg (count : Reg) (dest : Reg) (s : State) : Host.Outcome State Fault Refusal :=
  .next (s.shiftWord dest (lshift (s.reg dest) (shiftCount (s.reg count))) 2)

/-- LSHW, short immediate form (42_compare_logic_shift.md R170, R172). -/
def execLshwImm5 (count : BitVec 5) (dest : Reg) (s : State) : Host.Outcome State Fault Refusal :=
  .next (s.shiftWord dest (lshift (s.reg dest) (shiftCount (shortImm count))) 2)

/-- LSHW, medium immediate form (42_compare_logic_shift.md R170, R172). -/
def execLshwImm16 (count : BitVec 16) (dest : Reg) (s : State) : Host.Outcome State Fault Refusal :=
  .next (s.shiftWord dest (lshift (s.reg dest) (shiftCount count)) 4)

end Sys2Proof.Machine
end

