-- ==== Sys2Proof/Machine/Stack.lean ====
section
/-! DEFINITION. PUSH, POP and POPRET: 44_jumps_linkage.md R205 to R209. -/

namespace Sys2Proof.Machine

/-- PUSH (44_jumps_linkage.md R205, R206). -/
def execPush (rcnt : BitVec 2) (src : Reg) (s : State) : Host.Outcome State Fault Refusal :=
  .next ((s.pushRun rcnt src).advance 2)

/-- POP (44_jumps_linkage.md R205, R207). -/
def execPop (rcnt : BitVec 2) (dest : Reg) (s : State) : Host.Outcome State Fault Refusal :=
  .next ((s.popRun rcnt dest).advance 2)

/-- POPRET, small model: the jump reads RA as it is after the pop (44_jumps_linkage.md R208). -/
def execPopretSmall (rcnt : BitVec 2) (dest : Reg) (s : State) : Host.Outcome State Fault Refusal :=
  let t := s.popRun rcnt dest
  .next (t.popReturn (reachesSp dest rcnt) (codeSmall (t.reg Reg.ra)))

/-- POPRET, large model: the jump reads (RA, ERA) as they are after the pop (44_jumps_linkage.md R209). -/
def execPopretLarge (rcnt : BitVec 2) (dest : Reg) (s : State) : Host.Outcome State Fault Refusal :=
  let t := s.popRun rcnt dest
  .next (t.popReturn (reachesSp dest rcnt) (codeLarge (t.reg Reg.ra) (t.reg Reg.era)))

end Sys2Proof.Machine
end

