-- ==== Sys2Proof/Machine/Dispatch.lean ====
section
/-! DEFINITION. Dispatch: one arm per constructor of Instr, one call of its meaning each. -/

namespace Sys2Proof.Machine

/-- The meaning of an instruction in a state. -/
def exec (i : Instr) (s : State) : Host.Outcome State Fault Refusal :=
  match i with
  | .addbReg src dest => Sys2Proof.Machine.execAddbReg src dest s
  | .addbImm5 imm dest => Sys2Proof.Machine.execAddbImm5 imm dest s
  | .addbImm16 imm dest => Sys2Proof.Machine.execAddbImm16 imm dest s
  | .addwReg src dest => Sys2Proof.Machine.execAddwReg src dest s
  | .addwImm5 imm dest => Sys2Proof.Machine.execAddwImm5 imm dest s
  | .addwImm16 imm dest => Sys2Proof.Machine.execAddwImm16 imm dest s
  | .addubReg src dest => Sys2Proof.Machine.execAddubReg src dest s
  | .addubImm5 imm dest => Sys2Proof.Machine.execAddubImm5 imm dest s
  | .addubImm16 imm dest => Sys2Proof.Machine.execAddubImm16 imm dest s
  | .adduwReg src dest => Sys2Proof.Machine.execAdduwReg src dest s
  | .adduwImm5 imm dest => Sys2Proof.Machine.execAdduwImm5 imm dest s
  | .adduwImm16 imm dest => Sys2Proof.Machine.execAdduwImm16 imm dest s
  | .mulbReg src dest => Sys2Proof.Machine.execMulbReg src dest s
  | .mulbImm5 imm dest => Sys2Proof.Machine.execMulbImm5 imm dest s
  | .mulbImm16 imm dest => Sys2Proof.Machine.execMulbImm16 imm dest s
  | .mulwReg src dest => Sys2Proof.Machine.execMulwReg src dest s
  | .mulwImm5 imm dest => Sys2Proof.Machine.execMulwImm5 imm dest s
  | .mulwImm16 imm dest => Sys2Proof.Machine.execMulwImm16 imm dest s
  | .ashubReg count dest => Sys2Proof.Machine.execAshubReg count dest s
  | .ashubImm5 count dest => Sys2Proof.Machine.execAshubImm5 count dest s
  | .ashubImm16 count dest => Sys2Proof.Machine.execAshubImm16 count dest s
  | .ashuwReg count dest => Sys2Proof.Machine.execAshuwReg count dest s
  | .ashuwImm5 count dest => Sys2Proof.Machine.execAshuwImm5 count dest s
  | .ashuwImm16 count dest => Sys2Proof.Machine.execAshuwImm16 count dest s
  | .lshbReg count dest => Sys2Proof.Machine.execLshbReg count dest s
  | .lshbImm5 count dest => Sys2Proof.Machine.execLshbImm5 count dest s
  | .lshbImm16 count dest => Sys2Proof.Machine.execLshbImm16 count dest s
  | .lshwReg count dest => Sys2Proof.Machine.execLshwReg count dest s
  | .lshwImm5 count dest => Sys2Proof.Machine.execLshwImm5 count dest s
  | .lshwImm16 count dest => Sys2Proof.Machine.execLshwImm16 count dest s
  | .xorbReg src dest => Sys2Proof.Machine.execXorbReg src dest s
  | .xorbImm5 imm dest => Sys2Proof.Machine.execXorbImm5 imm dest s
  | .xorbImm16 imm dest => Sys2Proof.Machine.execXorbImm16 imm dest s
  | .xorwReg src dest => Sys2Proof.Machine.execXorwReg src dest s
  | .xorwImm5 imm dest => Sys2Proof.Machine.execXorwImm5 imm dest s
  | .xorwImm16 imm dest => Sys2Proof.Machine.execXorwImm16 imm dest s
  | .cmpbReg src1 src2 => Sys2Proof.Machine.execCmpbReg src1 src2 s
  | .cmpbImm5 imm src2 => Sys2Proof.Machine.execCmpbImm5 imm src2 s
  | .cmpbImm16 imm src2 => Sys2Proof.Machine.execCmpbImm16 imm src2 s
  | .cmpwReg src1 src2 => Sys2Proof.Machine.execCmpwReg src1 src2 s
  | .cmpwImm5 imm src2 => Sys2Proof.Machine.execCmpwImm5 imm src2 s
  | .cmpwImm16 imm src2 => Sys2Proof.Machine.execCmpwImm16 imm src2 s
  | .andbReg src dest => Sys2Proof.Machine.execAndbReg src dest s
  | .andbImm5 imm dest => Sys2Proof.Machine.execAndbImm5 imm dest s
  | .andbImm16 imm dest => Sys2Proof.Machine.execAndbImm16 imm dest s
  | .andwReg src dest => Sys2Proof.Machine.execAndwReg src dest s
  | .andwImm5 imm dest => Sys2Proof.Machine.execAndwImm5 imm dest s
  | .andwImm16 imm dest => Sys2Proof.Machine.execAndwImm16 imm dest s
  | .addcbReg src dest => Sys2Proof.Machine.execAddcbReg src dest s
  | .addcbImm5 imm dest => Sys2Proof.Machine.execAddcbImm5 imm dest s
  | .addcbImm16 imm dest => Sys2Proof.Machine.execAddcbImm16 imm dest s
  | .addcwReg src dest => Sys2Proof.Machine.execAddcwReg src dest s
  | .addcwImm5 imm dest => Sys2Proof.Machine.execAddcwImm5 imm dest s
  | .addcwImm16 imm dest => Sys2Proof.Machine.execAddcwImm16 imm dest s
  | .movbReg src dest => Sys2Proof.Machine.execMovbReg src dest s
  | .movbImm5 imm dest => Sys2Proof.Machine.execMovbImm5 imm dest s
  | .movbImm16 imm dest => Sys2Proof.Machine.execMovbImm16 imm dest s
  | .movwReg src dest => Sys2Proof.Machine.execMovwReg src dest s
  | .movwImm5 imm dest => Sys2Proof.Machine.execMovwImm5 imm dest s
  | .movwImm16 imm dest => Sys2Proof.Machine.execMovwImm16 imm dest s
  | .subcbReg src dest => Sys2Proof.Machine.execSubcbReg src dest s
  | .subcbImm5 imm dest => Sys2Proof.Machine.execSubcbImm5 imm dest s
  | .subcbImm16 imm dest => Sys2Proof.Machine.execSubcbImm16 imm dest s
  | .subcwReg src dest => Sys2Proof.Machine.execSubcwReg src dest s
  | .subcwImm5 imm dest => Sys2Proof.Machine.execSubcwImm5 imm dest s
  | .subcwImm16 imm dest => Sys2Proof.Machine.execSubcwImm16 imm dest s
  | .orbReg src dest => Sys2Proof.Machine.execOrbReg src dest s
  | .orbImm5 imm dest => Sys2Proof.Machine.execOrbImm5 imm dest s
  | .orbImm16 imm dest => Sys2Proof.Machine.execOrbImm16 imm dest s
  | .orwReg src dest => Sys2Proof.Machine.execOrwReg src dest s
  | .orwImm5 imm dest => Sys2Proof.Machine.execOrwImm5 imm dest s
  | .orwImm16 imm dest => Sys2Proof.Machine.execOrwImm16 imm dest s
  | .subbReg src dest => Sys2Proof.Machine.execSubbReg src dest s
  | .subbImm5 imm dest => Sys2Proof.Machine.execSubbImm5 imm dest s
  | .subbImm16 imm dest => Sys2Proof.Machine.execSubbImm16 imm dest s
  | .subwReg src dest => Sys2Proof.Machine.execSubwReg src dest s
  | .subwImm5 imm dest => Sys2Proof.Machine.execSubwImm5 imm dest s
  | .subwImm16 imm dest => Sys2Proof.Machine.execSubwImm16 imm dest s
  | .tbitReg offset src => Sys2Proof.Machine.execTbitReg offset src s
  | .tbitImm5 pos src => Sys2Proof.Machine.execTbitImm5 pos src s
  | .tbitImm16 pos src => Sys2Proof.Machine.execTbitImm16 pos src s
  | .nop => Sys2Proof.Machine.execNop s
  | .beq0b src disp => Sys2Proof.Machine.execBeq0b src disp s
  | .beq0w src disp => Sys2Proof.Machine.execBeq0w src disp s
  | .beq1b src disp => Sys2Proof.Machine.execBeq1b src disp s
  | .beq1w src disp => Sys2Proof.Machine.execBeq1w src disp s
  | .bne0b src disp => Sys2Proof.Machine.execBne0b src disp s
  | .bne0w src disp => Sys2Proof.Machine.execBne0w src disp s
  | .bne1b src disp => Sys2Proof.Machine.execBne1b src disp s
  | .bne1w src disp => Sys2Proof.Machine.execBne1w src disp s
  | .movd imm dest => Sys2Proof.Machine.execMovd imm dest s
  | .mulsb src dest => Sys2Proof.Machine.execMulsb src dest s
  | .mulsw src dest => Sys2Proof.Machine.execMulsw src dest s
  | .muluw src dest => Sys2Proof.Machine.execMuluw src dest s
  | .movxb src dest => Sys2Proof.Machine.execMovxb src dest s
  | .movzb src dest => Sys2Proof.Machine.execMovzb src dest s
  | .push rcnt src => Sys2Proof.Machine.execPush rcnt src s
  | .pop rcnt dest => Sys2Proof.Machine.execPop rcnt dest s
  | .popretSmall rcnt dest => Sys2Proof.Machine.execPopretSmall rcnt dest s
  | .popretLarge rcnt dest => Sys2Proof.Machine.execPopretLarge rcnt dest s
  | .seq dest => Sys2Proof.Machine.execSeq dest s
  | .sne dest => Sys2Proof.Machine.execSne dest s
  | .scs dest => Sys2Proof.Machine.execScs dest s
  | .scc dest => Sys2Proof.Machine.execScc dest s
  | .shi dest => Sys2Proof.Machine.execShi dest s
  | .sls dest => Sys2Proof.Machine.execSls dest s
  | .sgt dest => Sys2Proof.Machine.execSgt dest s
  | .sle dest => Sys2Proof.Machine.execSle dest s
  | .sfs dest => Sys2Proof.Machine.execSfs dest s
  | .sfc dest => Sys2Proof.Machine.execSfc dest s
  | .slo dest => Sys2Proof.Machine.execSlo dest s
  | .shs dest => Sys2Proof.Machine.execShs dest s
  | .slt dest => Sys2Proof.Machine.execSlt dest s
  | .sge dest => Sys2Proof.Machine.execSge dest s
  | .lpr src rproc => Sys2Proof.Machine.execLpr src rproc s
  | .spr rproc dest => Sys2Proof.Machine.execSpr rproc dest s
  | .beqDisp9 disp => Sys2Proof.Machine.execBeqDisp9 disp s
  | .beqDisp17 disp => Sys2Proof.Machine.execBeqDisp17 disp s
  | .beqDisp21 disp => Sys2Proof.Machine.execBeqDisp21 disp s
  | .bneDisp9 disp => Sys2Proof.Machine.execBneDisp9 disp s
  | .bneDisp17 disp => Sys2Proof.Machine.execBneDisp17 disp s
  | .bneDisp21 disp => Sys2Proof.Machine.execBneDisp21 disp s
  | .bcsDisp9 disp => Sys2Proof.Machine.execBcsDisp9 disp s
  | .bcsDisp17 disp => Sys2Proof.Machine.execBcsDisp17 disp s
  | .bcsDisp21 disp => Sys2Proof.Machine.execBcsDisp21 disp s
  | .bccDisp9 disp => Sys2Proof.Machine.execBccDisp9 disp s
  | .bccDisp17 disp => Sys2Proof.Machine.execBccDisp17 disp s
  | .bccDisp21 disp => Sys2Proof.Machine.execBccDisp21 disp s
  | .bhiDisp9 disp => Sys2Proof.Machine.execBhiDisp9 disp s
  | .bhiDisp17 disp => Sys2Proof.Machine.execBhiDisp17 disp s
  | .bhiDisp21 disp => Sys2Proof.Machine.execBhiDisp21 disp s
  | .blsDisp9 disp => Sys2Proof.Machine.execBlsDisp9 disp s
  | .blsDisp17 disp => Sys2Proof.Machine.execBlsDisp17 disp s
  | .blsDisp21 disp => Sys2Proof.Machine.execBlsDisp21 disp s
  | .bgtDisp9 disp => Sys2Proof.Machine.execBgtDisp9 disp s
  | .bgtDisp17 disp => Sys2Proof.Machine.execBgtDisp17 disp s
  | .bgtDisp21 disp => Sys2Proof.Machine.execBgtDisp21 disp s
  | .bleDisp9 disp => Sys2Proof.Machine.execBleDisp9 disp s
  | .bleDisp17 disp => Sys2Proof.Machine.execBleDisp17 disp s
  | .bleDisp21 disp => Sys2Proof.Machine.execBleDisp21 disp s
  | .bfsDisp9 disp => Sys2Proof.Machine.execBfsDisp9 disp s
  | .bfsDisp17 disp => Sys2Proof.Machine.execBfsDisp17 disp s
  | .bfsDisp21 disp => Sys2Proof.Machine.execBfsDisp21 disp s
  | .bfcDisp9 disp => Sys2Proof.Machine.execBfcDisp9 disp s
  | .bfcDisp17 disp => Sys2Proof.Machine.execBfcDisp17 disp s
  | .bfcDisp21 disp => Sys2Proof.Machine.execBfcDisp21 disp s
  | .bloDisp9 disp => Sys2Proof.Machine.execBloDisp9 disp s
  | .bloDisp17 disp => Sys2Proof.Machine.execBloDisp17 disp s
  | .bloDisp21 disp => Sys2Proof.Machine.execBloDisp21 disp s
  | .bhsDisp9 disp => Sys2Proof.Machine.execBhsDisp9 disp s
  | .bhsDisp17 disp => Sys2Proof.Machine.execBhsDisp17 disp s
  | .bhsDisp21 disp => Sys2Proof.Machine.execBhsDisp21 disp s
  | .bltDisp9 disp => Sys2Proof.Machine.execBltDisp9 disp s
  | .bltDisp17 disp => Sys2Proof.Machine.execBltDisp17 disp s
  | .bltDisp21 disp => Sys2Proof.Machine.execBltDisp21 disp s
  | .bgeDisp9 disp => Sys2Proof.Machine.execBgeDisp9 disp s
  | .bgeDisp17 disp => Sys2Proof.Machine.execBgeDisp17 disp s
  | .bgeDisp21 disp => Sys2Proof.Machine.execBgeDisp21 disp s
  | .brDisp9 disp => Sys2Proof.Machine.execBrDisp9 disp s
  | .brDisp17 disp => Sys2Proof.Machine.execBrDisp17 disp s
  | .brDisp21 disp => Sys2Proof.Machine.execBrDisp21 disp s
  | .balSmall link disp => Sys2Proof.Machine.execBalSmall link disp s
  | .balLarge link disp => Sys2Proof.Machine.execBalLarge link disp s
  | .jeqSmall target => Sys2Proof.Machine.execJeqSmall target s
  | .jeqLarge target => Sys2Proof.Machine.execJeqLarge target s
  | .jneSmall target => Sys2Proof.Machine.execJneSmall target s
  | .jneLarge target => Sys2Proof.Machine.execJneLarge target s
  | .jcsSmall target => Sys2Proof.Machine.execJcsSmall target s
  | .jcsLarge target => Sys2Proof.Machine.execJcsLarge target s
  | .jccSmall target => Sys2Proof.Machine.execJccSmall target s
  | .jccLarge target => Sys2Proof.Machine.execJccLarge target s
  | .jhiSmall target => Sys2Proof.Machine.execJhiSmall target s
  | .jhiLarge target => Sys2Proof.Machine.execJhiLarge target s
  | .jlsSmall target => Sys2Proof.Machine.execJlsSmall target s
  | .jlsLarge target => Sys2Proof.Machine.execJlsLarge target s
  | .jgtSmall target => Sys2Proof.Machine.execJgtSmall target s
  | .jgtLarge target => Sys2Proof.Machine.execJgtLarge target s
  | .jleSmall target => Sys2Proof.Machine.execJleSmall target s
  | .jleLarge target => Sys2Proof.Machine.execJleLarge target s
  | .jfsSmall target => Sys2Proof.Machine.execJfsSmall target s
  | .jfsLarge target => Sys2Proof.Machine.execJfsLarge target s
  | .jfcSmall target => Sys2Proof.Machine.execJfcSmall target s
  | .jfcLarge target => Sys2Proof.Machine.execJfcLarge target s
  | .jloSmall target => Sys2Proof.Machine.execJloSmall target s
  | .jloLarge target => Sys2Proof.Machine.execJloLarge target s
  | .jhsSmall target => Sys2Proof.Machine.execJhsSmall target s
  | .jhsLarge target => Sys2Proof.Machine.execJhsLarge target s
  | .jltSmall target => Sys2Proof.Machine.execJltSmall target s
  | .jltLarge target => Sys2Proof.Machine.execJltLarge target s
  | .jgeSmall target => Sys2Proof.Machine.execJgeSmall target s
  | .jgeLarge target => Sys2Proof.Machine.execJgeLarge target s
  | .jumpSmall target => Sys2Proof.Machine.execJumpSmall target s
  | .jumpLarge target => Sys2Proof.Machine.execJumpLarge target s
  | .jalSmall link target => Sys2Proof.Machine.execJalSmall link target s
  | .jalLarge link target => Sys2Proof.Machine.execJalLarge link target s
  | .retx => Sys2Proof.Machine.execRetx s
  | .excp vector => Sys2Proof.Machine.execExcp vector s
  | .di => Sys2Proof.Machine.execDi s
  | .ei => Sys2Proof.Machine.execEi s
  | .loadm rcnt => Sys2Proof.Machine.execLoadm rcnt s
  | .storm rcnt => Sys2Proof.Machine.execStorm rcnt s
  | .eiwait => Sys2Proof.Machine.execEiwait s
  | .wait => Sys2Proof.Machine.execWait s
  | .loadbDisp5 disp base dest => Sys2Proof.Machine.execLoadbDisp5 disp base dest s
  | .loadbDisp18 disp base dest => Sys2Proof.Machine.execLoadbDisp18 disp base dest s
  | .loadbFar disp base dest => Sys2Proof.Machine.execLoadbFar disp base dest s
  | .loadbAbs addr dest => Sys2Proof.Machine.execLoadbAbs addr dest s
  | .loadwDisp5 disp base dest => Sys2Proof.Machine.execLoadwDisp5 disp base dest s
  | .loadwDisp18 disp base dest => Sys2Proof.Machine.execLoadwDisp18 disp base dest s
  | .loadwFar disp base dest => Sys2Proof.Machine.execLoadwFar disp base dest s
  | .loadwAbs addr dest => Sys2Proof.Machine.execLoadwAbs addr dest s
  | .storbDisp5 src disp base => Sys2Proof.Machine.execStorbDisp5 src disp base s
  | .storbDisp18 src disp base => Sys2Proof.Machine.execStorbDisp18 src disp base s
  | .storbFar src disp base => Sys2Proof.Machine.execStorbFar src disp base s
  | .storbAbs src addr => Sys2Proof.Machine.execStorbAbs src addr s
  | .storwDisp5 src disp base => Sys2Proof.Machine.execStorwDisp5 src disp base s
  | .storwDisp18 src disp base => Sys2Proof.Machine.execStorwDisp18 src disp base s
  | .storwFar src disp base => Sys2Proof.Machine.execStorwFar src disp base s
  | .storwAbs src addr => Sys2Proof.Machine.execStorwAbs src addr s
  | .cbitbBase pos base => Sys2Proof.Machine.execCbitbBase pos base s
  | .cbitbDisp16 pos disp base => Sys2Proof.Machine.execCbitbDisp16 pos disp base s
  | .cbitbAbs pos addr => Sys2Proof.Machine.execCbitbAbs pos addr s
  | .cbitwBase pos base => Sys2Proof.Machine.execCbitwBase pos base s
  | .cbitwDisp16 pos disp base => Sys2Proof.Machine.execCbitwDisp16 pos disp base s
  | .cbitwAbs pos addr => Sys2Proof.Machine.execCbitwAbs pos addr s
  | .sbitbBase pos base => Sys2Proof.Machine.execSbitbBase pos base s
  | .sbitbDisp16 pos disp base => Sys2Proof.Machine.execSbitbDisp16 pos disp base s
  | .sbitbAbs pos addr => Sys2Proof.Machine.execSbitbAbs pos addr s
  | .sbitwBase pos base => Sys2Proof.Machine.execSbitwBase pos base s
  | .sbitwDisp16 pos disp base => Sys2Proof.Machine.execSbitwDisp16 pos disp base s
  | .sbitwAbs pos addr => Sys2Proof.Machine.execSbitwAbs pos addr s
  | .tbitbBase pos base => Sys2Proof.Machine.execTbitbBase pos base s
  | .tbitbDisp16 pos disp base => Sys2Proof.Machine.execTbitbDisp16 pos disp base s
  | .tbitbAbs pos addr => Sys2Proof.Machine.execTbitbAbs pos addr s
  | .tbitwBase pos base => Sys2Proof.Machine.execTbitwBase pos base s
  | .tbitwDisp16 pos disp base => Sys2Proof.Machine.execTbitwDisp16 pos disp base s
  | .tbitwAbs pos addr => Sys2Proof.Machine.execTbitwAbs pos addr s
  | .storbImmBase imm base => Sys2Proof.Machine.execStorbImmBase imm base s
  | .storbImmDisp16 imm disp base => Sys2Proof.Machine.execStorbImmDisp16 imm disp base s
  | .storbImmAbs imm addr => Sys2Proof.Machine.execStorbImmAbs imm addr s
  | .storwImmBase imm base => Sys2Proof.Machine.execStorwImmBase imm base s
  | .storwImmDisp16 imm disp base => Sys2Proof.Machine.execStorwImmDisp16 imm disp base s
  | .storwImmAbs imm addr => Sys2Proof.Machine.execStorwImmAbs imm addr s

end Sys2Proof.Machine
end

