-- ==== Sys2Proof/Machine/Cycle.lean ====
section
/-! DEFINITION. One step of the machine: the input lines, the fetch, the checks at an instruction
boundary, reset (60_exceptions.md R258, R270 to R272, R282, R283, R288; 20_memory.md R66, R77;
70_reset_and_hazards.md R300, R301). -/

namespace Sys2Proof.Machine

/-- The input levels of this step: the first of those ahead, quiet when none is left
(92_eei_decisions.md D13; notes/assumptions/4.md). No byte has been stored in this step yet. -/
def State.sample (s : State) : State :=
  match s.pinsAhead with
  | [] => { s with pins := Pins.quiet, written := [] }
  | p :: rest => { s with pins := p, pinsAhead := rest, written := [] }

/-! ## Fetch -/

/-- The byte was stored to since the last serializing operation (92_eei_decisions.md D6). -/
def State.marked (s : State) (a : Addr) : Bool := (markOf s.stale a.toNat).isSome

/-- A byte of an instruction: with old, a marked byte as it was before (92_eei_decisions.md D6). -/
def State.fetchByte (s : State) (old : Bool) (a : Addr) : Byte × State :=
  match (if old then markOf s.stale a.toNat else none) with
  | some b => (b, s)
  | none => s.loadByte a

/-- Whether a fetch that touches a marked byte delivers the old contents: a free choice per fetch
(92_eei_decisions.md D6). -/
def State.fetchChoice (s : State) (a : Addr) : Bool × State :=
  if s.marked a || s.marked (a + 1) then s.drawBit else (false, s)

/-- The instruction word at an address, low byte first (20_memory.md R62, R66). -/
def State.fetchWord (s : State) (a : Addr) : Word × State :=
  let c := s.fetchChoice a
  let lo := c.2.fetchByte c.1 a
  let hi := lo.2.fetchByte c.1 (a + 1)
  (wordOfBytes lo.1 hi.1, hi.2)

/-- The instruction at pc: its first word decides whether there is a second (20_memory.md R66). -/
def State.fetch (s : State) : Except Undefined Instr × State :=
  let w := s.fetchWord s.pc
  if instrLength w.1 = 4 then
    let w2 := w.2.fetchWord (s.pc + 2)
    (decode w.1 w2.1, w2.2)
  else (decode w.1 0, w.2)

/-! ## An instruction -/

/-- The instruction at pc meets the enabled PC-match condition (60_exceptions.md R282;
92_eei_decisions.md D17). -/
def State.pcMatches (s : State) : Bool :=
  s.dcr.getLsbD dcrDen && s.dcr.getLsbD dcrPc && s.pc == s.car
    && (!s.platform.pcMatchUsesCbe || s.dcr.getLsbD 0)

/-- The PC match, as the instruction starts (60_exceptions.md R282). -/
def State.notePcMatch (s : State) : State := if s.pcMatches then s.recordMatch dsrBpc else s

/-- An instruction starts: P takes T, then the PC match (60_exceptions.md R258, R282). -/
def State.beginInstruction (s : State) : State := (s.setFlag psrP (s.flag psrT)).notePcMatch

/-- Fetch, decode and execute; an undefined instruction takes UND with its own address and makes no data
reference (60_exceptions.md R253, R271; 92_eei_decisions.md D7). -/
def State.executeInstruction (s : State) : Host.Outcome State Fault Refusal :=
  let f := s.beginInstruction.fetch
  match f.1 with
  | .ok i => exec i f.2
  | .error _ => .next (f.2.takeException .und s.pc)

/-! ## The boundary -/

/-- A DBG trap is due: pending, or a tagged instruction with EFB set (60_exceptions.md R270, R283). -/
def State.debugDue (s : State) : Bool := s.dbgPending || (s.dcr.getLsbD dcrEfb && s.pins.tag)

/-- What is taken before the instruction at pc: DBG, NMI, INT, ISE, TRC, in that order
(60_exceptions.md R268, R270). -/
def State.boundaryException (s : State) : Option Exception :=
  if s.debugDue then some .dbg
  else
    match s.acceptedInterrupt s.pins.atBoundary with
    | some x => some x
    | none => if s.flag psrP then some .trc else none

/-- A step in the state Executing Instructions (60_exceptions.md R270). -/
def State.runStep (s : State) : Host.Outcome State Fault Refusal :=
  match s.boundaryException with
  | some x => .next (s.takeException x s.pc)
  | none => s.executeInstruction

/-- A step in the state Waiting for Interrupt (60_exceptions.md R272, R288; 92_eei_decisions.md D11). -/
def State.waitStep (s : State) : Host.Outcome State Fault Refusal :=
  match s.acceptedInterrupt s.pins.atBoundary with
  | some x => .next (s.takeException x s.pc)
  | none => .next s

/-- A step without the reset input: a released reset leaves for Executing Instructions
(60_exceptions.md R272, R289). -/
def State.coreStep (s : State) : Host.Outcome State Fault Refusal :=
  match s.opState with
  | .waiting => s.waitStep
  | .executing => s.runStep
  | .reset => (s.setOpState .executing).runStep

/-- A step with the reset input active: the first takes the reset event, the later ones stay
(70_reset_and_hazards.md R300; 60_exceptions.md R289; notes/assumptions/28.md). -/
def State.resetStep (s : State) : State := if s.opState = .reset then s else s.resetEvent

/-! ## Reset inside an instruction (70_reset_and_hazards.md R301; 93_implementation_defined.md U9) -/

/-- The instruction is a multiply (41_arithmetic.md R149). -/
def isMultiply (i : Instr) : Bool :=
  match i with
  | .mulbReg _ _
  | .mulbImm5 _ _
  | .mulbImm16 _ _
  | .mulwReg _ _
  | .mulwImm5 _ _
  | .mulwImm16 _ _
  | .mulsb _ _
  | .mulsw _ _
  | .muluw _ _ => true
  | _ => false

/-- The bits of PSR an instruction may write by its own rule (10_state.md R29 to R35); a suspended multiply
also clears I, P and T (60_exceptions.md R265, R266). LPR writes PSR only where it names PSR. -/
def flagsWritten (i : Instr) : List Nat :=
  match i with
  | .addbReg _ _
  | .addbImm5 _ _
  | .addbImm16 _ _
  | .addwReg _ _
  | .addwImm5 _ _
  | .addwImm16 _ _
  | .addcbReg _ _
  | .addcbImm5 _ _
  | .addcbImm16 _ _
  | .addcwReg _ _
  | .addcwImm5 _ _
  | .addcwImm16 _ _
  | .subcbReg _ _
  | .subcbImm5 _ _
  | .subcbImm16 _ _
  | .subcwReg _ _
  | .subcwImm5 _ _
  | .subcwImm16 _ _
  | .subbReg _ _
  | .subbImm5 _ _
  | .subbImm16 _ _
  | .subwReg _ _
  | .subwImm5 _ _
  | .subwImm16 _ _ => [psrC, psrF]
  | .cmpbReg _ _
  | .cmpbImm5 _ _
  | .cmpbImm16 _ _
  | .cmpwReg _ _
  | .cmpwImm5 _ _
  | .cmpwImm16 _ _ => [psrZ, psrN, psrL]
  | .tbitReg _ _
  | .tbitImm5 _ _
  | .tbitImm16 _ _
  | .cbitbBase _ _
  | .cbitbDisp16 _ _ _
  | .cbitbAbs _ _
  | .cbitwBase _ _
  | .cbitwDisp16 _ _ _
  | .cbitwAbs _ _
  | .sbitbBase _ _
  | .sbitbDisp16 _ _ _
  | .sbitbAbs _ _
  | .sbitwBase _ _
  | .sbitwDisp16 _ _ _
  | .sbitwAbs _ _
  | .tbitbBase _ _
  | .tbitbDisp16 _ _ _
  | .tbitbAbs _ _
  | .tbitwBase _ _
  | .tbitwDisp16 _ _ _
  | .tbitwAbs _ _ => [psrF]
  | .di
  | .ei
  | .eiwait => [psrE]
  | .excp _ => [psrP, psrT]
  | .retx => List.range 16
  | .lpr _ rproc => if rproc = 0b0001#4 then List.range 16 else []
  | _ => []

/-- The bits of PSR that are destinations of the instruction at pc, or of the exception it takes
(60_exceptions.md R265, R266). -/
def State.flagsAtStake (s : State) : List Nat :=
  match s.beginInstruction.fetch.1 with
  | .ok i =>
    if isMultiply i && (s.acceptedInterrupt s.pins.duringMul).isSome then [psrI, psrP, psrT] else flagsWritten i
  | .error _ => [psrP, psrT]

/-- The word with the listed bits set, of those PSR defines (10_state.md R28). -/
def flagMask (ks : List Nat) : Word := ks.foldr (fun k m => withBit m k true) 0 &&& psrDefined

/-- Reset inside an instruction that started in s, may write the flags ks and would complete as t: each
byte it stores and each flag it writes has any value, and R0 and R1 receive the PC of the instruction and
PSR (70_reset_and_hazards.md R300, R301; 10_state.md R26; 93_implementation_defined.md U9). -/
def State.resetInside (s t : State) (ks : List Nat) : State :=
  let m := State.scrambleBytes t.written t
  let d := m.drawWord
  d.2.resetInto (s.pc.extractLsb' 1 16) (frameHigh s.pc (maskedWrite s.psr d.1 (flagMask ks)))

/-- The step starts an instruction: it neither waits nor takes an exception at its boundary
(60_exceptions.md R270, R272). -/
def State.startsInstruction (s : State) : Bool := s.opState != .waiting && s.boundaryException.isNone

/-- A reset that arrives inside a step from s that would complete as t. Outside an instruction nothing is
left half done: an entry is atomic and waiting changes nothing (60_exceptions.md R288, R289;
notes/assumptions/22.md). -/
def State.resetDuring (s t : State) : State :=
  if s.startsInstruction then s.beginInstruction.resetInside t s.flagsAtStake else t.resetEvent

/-! ## The step -/

/-- A step with its input levels sampled (60_exceptions.md R272; 70_reset_and_hazards.md R301). -/
def State.sampledStep (s : State) : Host.Outcome State Fault Refusal :=
  if s.pins.reset then .next s.resetStep
  else
    match s.coreStep with
    | .next t => .next (if s.pins.resetInside then s.resetDuring t else t)
    | .fault f => .fault f
    | .refused r => .refused r

/-- One step of the machine (60_exceptions.md R272). -/
def State.cycle (s : State) : Host.Outcome State Fault Refusal := s.sample.sampledStep

/-! ## Placing an instruction -/

/-- Bytes placed in memory from address a on, by a loader outside the core. -/
def placeBytes (m : Memory) (a : Addr) (bs : List Byte) : Memory :=
  match bs with
  | [] => m
  | b :: rest => placeBytes (memWrite m a.toNat b) (a + 1) rest

/-- The bytes placed at pc, unmarked (notes/assumptions/33.md). -/
def State.placeAtPc (s : State) (bs : List Byte) : State :=
  { s with mem := placeBytes s.mem s.pc bs, stale := [] }

end Sys2Proof.Machine
end

