-- ==== Sys2Proof/Machine/Step.lean ====
section
/-! DEFINITION. The step, and the placing of the instruction it fetches next. -/

namespace Sys2Proof.Machine

/-- One step of the machine (60_exceptions.md R272). -/
def step (s : State) : Host.Outcome State Fault Refusal := s.cycle

/-- s with the instruction whose bits are w, of which the opcode table gives nbits, stored at pc
(notes/assumptions/33.md). -/
def State.withFetchWord (s : State) (nbits w : Nat) : State := s.placeAtPc (tableBytes nbits w)

end Sys2Proof.Machine
end

