-- ==== Sys2Proof/Safety.lean ====
section
/-! DEFINITION. The terms the claims use: the structural invariant, what a claim reads from a state, and
the frames, each written without the machine's own updates. -/

namespace Sys2Proof.Machine

/-! ## The invariant -/

/-- PSR bits 3, 4 and 8 are the constant 0 (10_state.md R28). -/
def psrConstantsOk (psr : Word) : Bool := psr &&& 0x0118#16 == 0

/-- ISP bits 20:16 and 0 are 0 (10_state.md R37). -/
def ispOk (isp : Addr) : Bool := isp &&& 0x1F0001#21 == 0

/-- The structural invariant: memory canonical, the PC and INTBASE even, the constant bits of ISP and
PSR 0 (10_state.md R26, R28, R37, R38; 20_memory.md R60). -/
structure State.Inv (s : State) : Prop where
  memory : s.mem.wf = true
  pcEven : s.pc.getLsbD 0 = false
  ispShape : ispOk s.isp = true
  intbaseEven : s.intbase.getLsbD 0 = false
  psrShape : psrConstantsOk s.psr = true

/-! ## Outcomes -/

/-- What exec and step answer. -/
abbrev Result := Host.Outcome State Fault Refusal

/-- The outcome is a next state, and it has the property. -/
def Completes (o : Result) (P : State → Prop) : Prop := ∃ t, o = .next t ∧ P t

/-! ## Readings -/

/-- The low w bits of a register, as a number. -/
def State.low (s : State) (w : Nat) (r : Reg) : Nat := (s.reg r).toNat % 2 ^ w

/-- The two's-complement value of a w-bit number (41_arithmetic.md R140). -/
def signedOf (w v : Nat) : Int := if v < 2 ^ (w - 1) then v else (v : Int) - 2 ^ w

/-- The byte memory holds at an address. -/
def State.byteAt (s : State) (a : Addr) : Byte := memRead s.mem a.toNat

/-- The little-endian word memory holds at an address, as a number (20_memory.md R63). -/
def State.wordAt (s : State) (a : Addr) : Nat := (s.byteAt a).toNat + 256 * (s.byteAt (a + 1)).toNat

/-- RAM stands at the address. -/
def State.isRam (s : State) (a : Addr) : Prop := s.kindAt a = .ram

/-- RAM or ROM stands at the address. -/
def State.isStored (s : State) (a : Addr) : Prop := s.kindAt a = .ram ∨ s.kindAt a = .rom

/-- RAM stands under both bytes of the word at the address. -/
def State.ramWord (s : State) (a : Addr) : Prop := s.isRam a ∧ s.isRam (a + 1)

/-- RAM or ROM stands under both bytes of the word at the address. -/
def State.storedWord (s : State) (a : Addr) : Prop := s.isStored a ∧ s.isStored (a + 1)

/-! ## Frames -/

/-- Every register but those of the list is unchanged. -/
def RegsBut (s t : State) (ds : List Reg) : Prop := ∀ r, r ∉ ds → t.reg r = s.reg r

/-- Every bit of PSR but those of the list is unchanged. -/
def FlagsBut (s t : State) (ks : List Nat) : Prop := ∀ k, k ∉ ks → t.flag k = s.flag k

/-- The low w bits of register d are v, the bits above are unchanged (10_state.md R22). -/
def WritesLow (s t : State) (w : Nat) (d : Reg) (v : Nat) : Prop :=
  (t.reg d).toNat = (s.reg d).toNat / 2 ^ w * 2 ^ w + v

/-- The PC is that of the next instruction, bit 0 cleared (10_state.md R27). -/
def PcAfter (s t : State) (len : Nat) : Prop := t.pc.toNat = (s.pc.toNat + len) % 2 ^ 21 / 2 * 2

/-- Every byte of memory but those at the addresses of the list is unchanged. -/
def MemoryBut (s t : State) (as : List Addr) : Prop := ∀ a, a ∉ as → t.byteAt a = s.byteAt a

/-- The registers exceptions, LPR and the environment write are unchanged, but for DCR and DSR. -/
structure SpecialsKept (s t : State) : Prop where
  isp : t.isp = s.isp
  intbase : t.intbase = s.intbase
  cfg : t.cfg = s.cfg
  car : t.car = s.car
  platform : t.platform = s.platform
  pins : t.pins = s.pins
  pinsAhead : t.pinsAhead = s.pinsAhead

/-- The debug unit is unchanged. -/
structure DebugKept (s t : State) : Prop where
  dcr : t.dcr = s.dcr
  dsr : t.dsr = s.dsr
  pending : t.dbgPending = s.dbgPending

/-! ## The debug unit (60_exceptions.md R281) -/

/-- The registers a match writes, and DBG-pending. -/
structure DebugUnit where
  dcr : Word
  dsr : Word
  pending : Bool
deriving DecidableEq, Repr

/-- The debug unit of a state. -/
def State.debugUnit (s : State) : DebugUnit := ⟨s.dcr, s.dsr, s.dbgPending⟩

/-- A data access: its kind and the address of its byte. -/
abbrev Access := AccessKind × Addr

/-- The bytes of the word at an address. -/
def wordBytes (a : Addr) : List Addr := [a, a + 1]

/-- Reads of the bytes of the list, in its order. -/
def reads (as : List Addr) : List Access := as.map fun a => (.read, a)

/-- Writes of the bytes of the list, in its order. -/
def writes (as : List Addr) : List Access := as.map fun a => (.write, a)

/-- The enabled compare-address condition, CAR being car: DEN set, PC clear, CRD or CWR set by the kind, the
word of CAR, and the CBE bit of the byte (60_exceptions.md R281). -/
def DebugUnit.Hit (u : DebugUnit) (car : Addr) (a : Access) : Prop :=
  u.dcr.getLsbD dcrDen = true ∧ u.dcr.getLsbD dcrPc = false ∧
  u.dcr.getLsbD (if a.1 = .read then dcrCrd else dcrCwr) = true ∧
  a.2.toNat / 2 = car.toNat / 2 ∧ u.dcr.getLsbD (a.2.toNat % 2) = true

/-- A recorded match: DBG is pending, the DSR bit st is set, DEN is cleared, every other bit of DCR and DSR
is unchanged (60_exceptions.md R281, R282). -/
def DebugUnit.Matched (u v : DebugUnit) (st : Nat) : Prop :=
  v.pending = true ∧ (∀ k, v.dsr.getLsbD k = (u.dsr.getLsbD k || decide (k = st))) ∧
  (∀ k, v.dcr.getLsbD k = (u.dcr.getLsbD k && decide (k ≠ dcrDen)))

/-- The debug unit v after the accesses of the list, in its order, from u: the first that hits is recorded
and clears DEN, so that no later one does; where none hits nothing changes (60_exceptions.md R281;
92_eei_decisions.md D12, D15). -/
def DebugUnit.After (car : Addr) (u v : DebugUnit) (as : List Access) : Prop :=
  match as with
  | [] => v = u
  | a :: rest =>
    (u.Hit car a → u.Matched v (if a.1 = .read then dsrBrd else dsrBwr)) ∧
    (¬ u.Hit car a → DebugUnit.After car u v rest)

/-- The debug unit of t is that of s after the accesses of the list. -/
def DebugOfAccess (s t : State) (as : List Access) : Prop := s.debugUnit.After s.car t.debugUnit as

/-- Only registers, PSR and PC may differ: an instruction without a memory access. -/
structure RegisterOnly (s t : State) : Prop where
  specials : SpecialsKept s t
  debug : DebugKept s t
  opState : t.opState = s.opState
  memory : MemoryBut s t []
  stale : t.stale = s.stale

/-- What an instruction that reads the bytes of the list, and stores nothing, leaves as it was. -/
structure ReadOnly (s t : State) (as : List Addr) : Prop where
  specials : SpecialsKept s t
  debug : DebugOfAccess s t (reads as)
  opState : t.opState = s.opState
  memory : MemoryBut s t []
  stale : t.stale = s.stale

/-- What an instruction that makes the accesses of the list leaves as it was, besides the bytes it stores;
where no RAM stands it changes no byte (20_memory.md R70). -/
structure StoreOnly (s t : State) (as : List Access) : Prop where
  specials : SpecialsKept s t
  debug : DebugOfAccess s t as
  opState : t.opState = s.opState
  notRam : ∀ a, ¬ s.isRam a → t.byteAt a = s.byteAt a

/-- The byte at ea holds v where RAM stands, and is unchanged elsewhere (20_memory.md R64, R70). -/
def ByteStored (s t : State) (ea : Addr) (v : Nat) : Prop :=
  (s.isRam ea → (t.byteAt ea).toNat = v) ∧ (¬ s.isRam ea → t.byteAt ea = s.byteAt ea)

/-- The word at ea holds v, low byte first, in the bytes where RAM stands (20_memory.md R64, R70). -/
def WordStored (s t : State) (ea : Addr) (v : Nat) : Prop :=
  ByteStored s t ea (v % 256) ∧ ByteStored s t (ea + 1) (v / 256)

/-! ## Operand forms -/

/-- E holds of the outcome of the register, the short immediate and the medium immediate form of an
instruction, given the w-bit value of the source operand and the length (30_encoding.md R94 to R96). -/
def AllForms (w : Nat) (s : State) (reg : Reg → Instr) (short : BitVec 5 → Instr) (medium : BitVec 16 → Instr)
    (E : Nat → Nat → Result → Prop) : Prop :=
  (∀ r, E (s.low w r) 2 (exec (reg r) s)) ∧
  (∀ imm, E (imm.toInt % 2 ^ w).toNat 2 (exec (short imm) s)) ∧
  (∀ imm, E (imm.toNat % 2 ^ w) 4 (exec (medium imm) s))

/-! ## Effects -/

/-- d takes the w-bit value v; no flag is written. -/
def ResultEffect (w : Nat) (s : State) (d : Reg) (v len : Nat) (o : Result) : Prop :=
  Completes o fun t =>
    WritesLow s t w d v ∧ RegsBut s t [d] ∧ t.psr = s.psr ∧ PcAfter s t len ∧ RegisterOnly s t

/-- d takes the w-bit value v, C and F the values given. -/
def ArithEffect (w : Nat) (s : State) (d : Reg) (v : Nat) (carry overflow : Prop) (len : Nat) (o : Result) : Prop :=
  Completes o fun t =>
    WritesLow s t w d v ∧ RegsBut s t [d] ∧ (t.flag psrC = true ↔ carry) ∧ (t.flag psrF = true ↔ overflow) ∧
    FlagsBut s t [psrC, psrF] ∧ PcAfter s t len ∧ RegisterOnly s t

/-- A signed result outside the w-bit range (41_arithmetic.md R140). -/
def Overflows (w : Nat) (x : Int) : Prop := x < -(2 : Int) ^ (w - 1) ∨ (2 : Int) ^ (w - 1) ≤ x

/-- d <- d + b + c (41_arithmetic.md R140 to R142). -/
def AddEffect (w : Nat) (s : State) (d : Reg) (c b len : Nat) (o : Result) : Prop :=
  ArithEffect w s d ((s.low w d + b + c) % 2 ^ w) (2 ^ w ≤ s.low w d + b + c)
    (Overflows w (signedOf w (s.low w d) + signedOf w b + c)) len o

/-- d <- d - b - c (41_arithmetic.md R140, R143, R144). -/
def SubEffect (w : Nat) (s : State) (d : Reg) (c b len : Nat) (o : Result) : Prop :=
  ArithEffect w s d (((s.low w d : Int) - b - c) % 2 ^ w).toNat (s.low w d < b + c)
    (Overflows w (signedOf w (s.low w d) - signedOf w b - c)) len o

/-- Z, N and L from src1 = b and src2 in register d (42_compare_logic_shift.md R160). -/
def CompareEffect (w : Nat) (s : State) (d : Reg) (b len : Nat) (o : Result) : Prop :=
  Completes o fun t =>
    (t.flag psrZ = true ↔ b = s.low w d) ∧ (t.flag psrN = true ↔ signedOf w (s.low w d) < signedOf w b) ∧
    (t.flag psrL = true ↔ s.low w d < b) ∧ FlagsBut s t [psrZ, psrN, psrL] ∧ RegsBut s t [] ∧
    PcAfter s t len ∧ RegisterOnly s t

/-- A shift by the signed byte n where it is in range: left for a positive count, right for a negative
one, filling from the sign (arith) or with 0; out of range the w bits are open, everything else is as in
range (42_compare_logic_shift.md R170 to R172; 93_implementation_defined.md U5). -/
def ShiftEffect (w : Nat) (arith : Bool) (s : State) (d : Reg) (b len : Nat) (o : Result) : Prop :=
  let n := signedOf 8 (b % 256)
  let x := if arith then signedOf w (s.low w d) else (s.low w d : Int)
  Completes o fun t =>
    (0 ≤ n → n.natAbs < w → WritesLow s t w d (s.low w d * 2 ^ n.natAbs % 2 ^ w)) ∧
    (n < 0 → n.natAbs < w → WritesLow s t w d (x / 2 ^ n.natAbs % 2 ^ w).toNat) ∧
    (t.reg d).toNat / 2 ^ w = (s.reg d).toNat / 2 ^ w ∧
    RegsBut s t [d] ∧ t.psr = s.psr ∧ PcAfter s t len ∧ RegisterOnly s t

/-- The pair of d takes the 32-bit value p, low half in d (10_state.md R25). -/
def PairEffect (s : State) (d : Reg) (p len : Nat) (o : Result) : Prop :=
  Completes o fun t =>
    (t.reg d).toNat = p % 2 ^ 16 ∧ (t.reg (d + 1)).toNat = p / 2 ^ 16 ∧ RegsBut s t [d, d + 1] ∧
    t.psr = s.psr ∧ PcAfter s t len ∧ RegisterOnly s t

/-- A jump to the address tgt, bit 0 cleared; nothing else but the registers of links changes. -/
def JumpEffect (s : State) (links : List Reg) (tgt : Nat) (o : Result) : Prop :=
  Completes o fun t =>
    t.pc.toNat = tgt / 2 * 2 ∧ RegsBut s t links ∧ t.psr = s.psr ∧ RegisterOnly s t

/-- A branch to tgt where the condition holds, else to the next instruction. -/
def BranchEffect (s : State) (cond : Prop) (tgt len : Nat) (o : Result) : Prop :=
  (cond → JumpEffect s [] tgt o) ∧ (¬ cond → JumpEffect s [] ((s.pc.toNat + len) % 2 ^ 21) o)

/-- The truth of a condition by the flags (30_encoding.md R109). -/
def CondTrue (s : State) (c : Cond) : Prop :=
  match c with
  | .eq => s.flag psrZ = true
  | .ne => s.flag psrZ = false
  | .cs => s.flag psrC = true
  | .cc => s.flag psrC = false
  | .hi => s.flag psrL = true
  | .ls => s.flag psrL = false
  | .gt => s.flag psrN = true
  | .le => s.flag psrN = false
  | .fs => s.flag psrF = true
  | .fc => s.flag psrF = false
  | .lo => s.flag psrL = false ∧ s.flag psrZ = false
  | .hs => s.flag psrL = true ∨ s.flag psrZ = true
  | .lt => s.flag psrN = false ∧ s.flag psrZ = false
  | .ge => s.flag psrN = true ∨ s.flag psrZ = true

/-- The bytes of a w-bit operand at ea: one, or two. -/
def operandBytes (w : Nat) (ea : Addr) : List Addr := if w = 8 then [ea] else wordBytes ea

/-- d takes the w-bit operand at ea where memory stands there; the bits above stay
(45_procreg_loadstore_misc.md R230, R231). -/
def LoadEffect (w : Nat) (s : State) (d : Reg) (ea : Addr) (len : Nat) (o : Result) : Prop :=
  Completes o fun t =>
    (w = 8 → s.isStored ea → WritesLow s t 8 d (s.byteAt ea).toNat) ∧
    (w = 16 → s.storedWord ea → WritesLow s t 16 d (s.wordAt ea)) ∧
    (t.reg d).toNat / 2 ^ w = (s.reg d).toNat / 2 ^ w ∧
    RegsBut s t [d] ∧ t.psr = s.psr ∧ PcAfter s t len ∧ ReadOnly s t (operandBytes w ea)

/-- The byte v is stored at ea (20_memory.md R64). -/
def StoreByteEffect (s : State) (ea : Addr) (v len : Nat) (o : Result) : Prop :=
  Completes o fun t =>
    (s.mem.wf = true → ByteStored s t ea v) ∧ MemoryBut s t [ea] ∧
    RegsBut s t [] ∧ t.psr = s.psr ∧ PcAfter s t len ∧ StoreOnly s t (writes [ea])

/-- The word v is stored at ea, low byte first (20_memory.md R64). -/
def StoreWordEffect (s : State) (ea : Addr) (v len : Nat) (o : Result) : Prop :=
  Completes o fun t =>
    (s.mem.wf = true → WordStored s t ea v) ∧ MemoryBut s t [ea, ea + 1] ∧
    RegsBut s t [] ∧ t.psr = s.psr ∧ PcAfter s t len ∧ StoreOnly s t (writes (wordBytes ea))

/-- F takes bit pos of the w-bit operand at ea, for a position below w (43_bits.md R180, R184). -/
def TestBitEffect (w : Nat) (s : State) (ea : Addr) (pos len : Nat) (o : Result) : Prop :=
  Completes o fun t =>
    (w = 8 → pos < 8 → s.isStored ea → t.flag psrF = (s.byteAt ea).toNat.testBit pos) ∧
    (w = 16 → s.storedWord ea → t.flag psrF = (s.wordAt ea).testBit pos) ∧
    FlagsBut s t [psrF] ∧ RegsBut s t [] ∧ PcAfter s t len ∧ ReadOnly s t (operandBytes w ea)

/-- The w-bit operand at ea after its bit pos became b. -/
def changedBit (old pos : Nat) (b : Bool) : Nat :=
  old - (if old.testBit pos then 2 ^ pos else 0) + (if b then 2 ^ pos else 0)

/-- F takes bit pos of the byte at ea before that bit becomes b; for positions 8 to 15 F and the byte are
open (43_bits.md R180, R182, R185, R186). -/
def ChangeByteEffect (s : State) (ea : Addr) (pos : Nat) (b : Bool) (len : Nat) (o : Result) : Prop :=
  Completes o fun t =>
    (pos < 8 → s.isStored ea → t.flag psrF = (s.byteAt ea).toNat.testBit pos) ∧
    (pos < 8 → s.mem.wf = true → s.isRam ea →
      (t.byteAt ea).toNat = changedBit (s.byteAt ea).toNat pos b) ∧
    (¬ s.isRam ea → t.byteAt ea = s.byteAt ea) ∧
    MemoryBut s t [ea] ∧ FlagsBut s t [psrF] ∧ RegsBut s t [] ∧ PcAfter s t len ∧
    StoreOnly s t (reads [ea] ++ writes [ea])

/-- F takes bit pos of the word at ea before that bit becomes b; where ROM stands the byte stays
(43_bits.md R180, R185, R186; 20_memory.md R70). -/
def ChangeWordEffect (s : State) (ea : Addr) (pos : Nat) (b : Bool) (len : Nat) (o : Result) : Prop :=
  Completes o fun t =>
    (s.storedWord ea → t.flag psrF = (s.wordAt ea).testBit pos) ∧
    (s.mem.wf = true → s.ramWord ea → t.wordAt ea = changedBit (s.wordAt ea) pos b) ∧
    (s.mem.wf = true → s.storedWord ea → WordStored s t ea (changedBit (s.wordAt ea) pos b)) ∧
    MemoryBut s t [ea, ea + 1] ∧ FlagsBut s t [psrF] ∧ RegsBut s t [] ∧ PcAfter s t len ∧
    StoreOnly s t (reads (wordBytes ea) ++ writes (wordBytes ea))

/-- The addresses of the bytes of n words at a, a + 2, ..., the word addresses modulo 2^16
(44_jumps_linkage.md R205). -/
def stackBytes (a : Word) (n : Nat) : List Addr :=
  (List.range n).flatMap fun k =>
    [(a + BitVec.ofNat 16 (2 * k)).setWidth 21, (a + BitVec.ofNat 16 (2 * k)).setWidth 21 + 1]

/-- The words v 0, v 1, ... stand at a, a + 2, ... in memory (44_jumps_linkage.md R206). -/
def WordsStored (s t : State) (a : Word) (n : Nat) (v : Nat → Nat) : Prop :=
  ∀ k, k < n → s.ramWord ((a + BitVec.ofNat 16 (2 * k)).setWidth 21) →
    t.wordAt ((a + BitVec.ofNat 16 (2 * k)).setWidth 21) = v k

/-- A reset does not arrive at this step: not at its boundary and not inside its instruction. -/
def State.noReset (s : State) : Prop := s.sample.pins.reset = false ∧ s.sample.pins.resetInside = false

/-- Nothing but the instruction at pc happens in the next step: the core executes, no reset arrives, and
no exception is taken at the boundary (60_exceptions.md R270, R272). -/
def State.quietStep (s : State) : Prop :=
  s.opState = .executing ∧ s.noReset ∧ s.sample.boundaryException = none

/-- Memory stands at pc and holds the words of i there, none of the bytes stored to since the last
serializing operation (20_memory.md R66, R77). -/
def State.holdsAtPc (s : State) (i : Instr) : Prop :=
  ∀ k, k < i.length →
    s.isStored (s.pc + BitVec.ofNat 21 k) ∧ s.marked (s.pc + BitVec.ofNat 21 k) = false ∧
    (encodeBytes i)[k]? = some (s.byteAt (s.pc + BitVec.ofNat 21 k))

/-! ## Encodings and special registers in claims -/

/-- The word n alone is the instruction i, whatever follows. -/
def WordIs (n : Nat) (i : Instr) : Prop := ∀ w2, decode (BitVec.ofNat 16 n) w2 = .ok i

/-- The words n, n2 are the instruction i. -/
def WordsAre (n n2 : Nat) (i : Instr) : Prop := decode (BitVec.ofNat 16 n) (BitVec.ofNat 16 n2) = .ok i

/-- PSR, INTBASE, CFG, DSR, DCR, ISP, CAR, in that order, as numbers (10_state.md R44). -/
def specialsOf (s : State) : List Nat :=
  [s.psr.toNat, s.intbase.toNat, s.cfg.toNat, s.dsr.toNat, s.dcr.toNat, s.isp.toNat, s.car.toNat]

/-- Every special register but the one at index j of specialsOf is unchanged. -/
def SpecialsBut (s t : State) (j : Nat) : Prop :=
  ∀ k, k ≠ j → (specialsOf t)[k]? = (specialsOf s)[k]?

/-- What LPR and SPR leave as it was: memory, the operating state, the input lines, DBG-pending. -/
structure OutsideKept (s t : State) : Prop where
  memory : MemoryBut s t []
  opState : t.opState = s.opState
  pending : t.dbgPending = s.dbgPending
  pins : t.pins = s.pins
  pinsAhead : t.pinsAhead = s.pinsAhead
  platform : t.platform = s.platform

/-- LPR of the general register src to the code c: what happens to the named special register, at index j
of specialsOf; nothing else changes and the marks of stored bytes are cleared
(45_procreg_loadstore_misc.md R220). -/
def LprEffect (s : State) (src : Reg) (c : BitVec 4) (j : Nat) (P : State → Prop) : Prop :=
  Completes (exec (.lpr src c) s) fun t =>
    P t ∧ SpecialsBut s t j ∧ RegsBut s t [] ∧ PcAfter s t 2 ∧ OutsideKept s t ∧ t.stale = []

/-- SPR of the code c to the general register d: what d receives; nothing else changes and the marks of
stored bytes are cleared (45_procreg_loadstore_misc.md R221). -/
def SprEffect (s : State) (c : BitVec 4) (d : Reg) (P : Word → Prop) : Prop :=
  Completes (exec (.spr c d) s) fun t =>
    P (t.reg d) ∧ RegsBut s t [d] ∧ specialsOf t = specialsOf s ∧ PcAfter s t 2 ∧ OutsideKept s t ∧ t.stale = []

/-! ## Exceptions in claims -/

/-- The 16-bit stack address d above an interrupt stack pointer (92_eei_decisions.md D4). -/
def stackAddr (isp : Addr) (d : Nat) : Addr := BitVec.ofNat 21 ((isp.toNat + d) % 2 ^ 16)

/-- The four addresses of the frame an entry from s pushes (60_exceptions.md R262, R273). -/
def frameBytes (s : State) : List Addr :=
  [stackAddr s.isp 65532, stackAddr s.isp 65532 + 1, stackAddr s.isp 65534, stackAddr s.isp 65534 + 1]

/-- The bits of PSR an entry clears after saving (60_exceptions.md R265). -/
def clearedAfter (x : Exception) : List Nat :=
  match x with
  | .nmi | .int | .ise | .dbg => [psrI, psrP, psrT]
  | .svc | .dvz | .flg | .bpt | .und | .trc => [psrP, psrT]

/-- The frame of an entry: ISP 4 lower, the saved PC and PSR above it, TRC saving P as 0; no other byte
changes, and none where no RAM stands (60_exceptions.md R262, R265, R273). -/
def FramePushed (s : State) (x : Exception) (spc : Addr) (t : State) : Prop :=
  t.isp = stackAddr s.isp 65532 ∧ MemoryBut s t (frameBytes s) ∧
  (∀ a, ¬ s.isRam a → t.byteAt a = s.byteAt a) ∧
  (s.mem.wf = true → (∀ a ∈ frameBytes s, s.isRam a) →
    t.wordAt (stackAddr s.isp 65532) = spc.toNat / 2 % 2 ^ 16 ∧
    t.wordAt (stackAddr s.isp 65534) = spc.toNat / 2 ^ 17 * 4096 +
      (s.psr.toNat % 4096 - (if x = .trc ∧ s.flag psrP = true then 1024 else 0)))

/-- The status after an entry: the bits of PSR, the operating state, what is not touched
(60_exceptions.md R262, R265). -/
def StatusAfterEntry (s : State) (x : Exception) (t : State) : Prop :=
  (∀ k ∈ clearedAfter x, t.flag k = false) ∧ FlagsBut s t (clearedAfter x) ∧
  RegsBut s t [] ∧ t.intbase = s.intbase ∧ t.cfg = s.cfg ∧ t.car = s.car ∧ t.platform = s.platform ∧
  t.pins = s.pins ∧ t.pinsAhead = s.pinsAhead ∧ t.opState = .executing ∧ t.stale = []

/-- The vector numbers (60_exceptions.md R251; TRC: 92_eei_decisions.md D8). -/
def vectorNumber (x : Exception) (icu : Byte) : Nat :=
  match x with
  | .nmi => 1
  | .svc => 5
  | .dvz => 6
  | .flg => 7
  | .bpt => 8
  | .trc => 9
  | .und => 10
  | .dbg => 14
  | .ise => 15
  | .int => icu.toNat

/-- The emulator's dispatch is selected (60_exceptions.md R285). -/
abbrev alternate (s : State) (x : Exception) : Prop :=
  (x = .ise ∧ s.dcr.getLsbD 13 = true) ∨ (x = .dbg ∧ s.dcr.getLsbD 12 = true) ∨
  (x = .trc ∧ s.dcr.getLsbD 11 = true) ∨ (x = .bpt ∧ s.dcr.getLsbD 10 = true)

/-- The dispatch entry at address a (16 bits, or 32 bits if wide) gives the PC of t: read from t's memory,
which the reads of the entry sequence leave as the frame left it (60_exceptions.md R264). -/
def DispatchedTo (t : State) (a : Nat) (wide : Bool) : Prop :=
  let lo := BitVec.ofNat 21 a
  if wide then
    t.storedWord lo → t.storedWord (lo + 2) →
      t.pc.toNat = t.wordAt (lo + 2) % 16 * 2 ^ 17 + t.wordAt lo * 2
  else t.storedWord lo → t.pc.toNat = t.wordAt lo * 2

/-- The handler of an entry (60_exceptions.md R264, R285; 92_eei_decisions.md D2). -/
def HandlerEntered (s : State) (x : Exception) (t : State) : Prop :=
  let v := vectorNumber x s.pins.icuVector
  (alternate s x → DispatchedTo t (v * 4) true) ∧
  (¬ alternate s x → s.cfgEd = true → DispatchedTo t ((s.intbase.toNat + v * 4) % 2 ^ 21) true) ∧
  (¬ alternate s x → s.cfgEd = false → DispatchedTo t ((s.intbase.toNat % 2 ^ 16 + v * 2) % 2 ^ 21) false)

/-- The address of the dispatch entry (60_exceptions.md R264, R285; 92_eei_decisions.md D2). -/
def dispatchAt (s : State) (x : Exception) : Addr :=
  let v := vectorNumber x s.pins.icuVector
  if alternate s x then BitVec.ofNat 21 (v * 4)
  else if s.cfgEd then BitVec.ofNat 21 (s.intbase.toNat + v * 4)
  else BitVec.ofNat 21 (s.intbase.toNat % 2 ^ 16 + v * 2)

/-- The bytes of the dispatch entry, in the order of their reads: one word, or two (60_exceptions.md R264). -/
def dispatchBytes (s : State) (x : Exception) : List Addr :=
  if alternate s x ∨ s.cfgEd = true then wordBytes (dispatchAt s x) ++ wordBytes (dispatchAt s x + 2)
  else wordBytes (dispatchAt s x)

/-- The byte an acknowledge cycle reads, where there is one (60_exceptions.md R263, R285). -/
def acknowledgeBytes (s : State) (x : Exception) : List Addr :=
  match x with
  | .int => [0x00FE00#21]
  | .nmi => [0x00FF00#21]
  | .ise => [0x00FC00#21]
  | .dbg => if s.dcr.getLsbD 12 then [0x00FC02#21] else []
  | .trc => if s.dcr.getLsbD 11 then [0x00FC0C#21] else []
  | .bpt => if s.dcr.getLsbD 10 then [0x00FC0E#21] else []
  | .svc | .dvz | .flg | .und => []

/-- Step 5 of an entry on the debug unit: DBG clears DBG-pending, and for a tagged instruction sets EXF and
clears EFB; any other entry changes nothing (60_exceptions.md R262, R283). -/
def DebugUnit.Settled (x : Exception) (tag : Bool) (u v : DebugUnit) : Prop :=
  (x ≠ .dbg → v = u) ∧
  (x = .dbg → v.pending = false ∧
    (∀ k, v.dsr.getLsbD k = (u.dsr.getLsbD k || decide (k = dsrExf ∧ tag = true ∧ u.dcr.getLsbD dcrEfb = true))) ∧
    (∀ k, v.dcr.getLsbD k = (u.dcr.getLsbD k && !decide (k = dcrEfb ∧ tag = true))))

/-- The debug unit over an entry: the writes of the frame, step 5, then the acknowledge read and the reads of
the dispatch entry; the accesses may match (60_exceptions.md R262, R281). -/
def DebugAfterEntry (s : State) (x : Exception) (t : State) : Prop :=
  ∃ u v : DebugUnit, s.debugUnit.After s.car u (writes (frameBytes s)) ∧ u.Settled x s.pins.tag v ∧
    v.After s.car t.debugUnit (reads (acknowledgeBytes s x ++ dispatchBytes s x))

/-- Everything the entry of exception x from s, with spc saved, does (60_exceptions.md R262). -/
def Entered (s : State) (x : Exception) (spc : Addr) (t : State) : Prop :=
  FramePushed s x spc t ∧ StatusAfterEntry s x t ∧ HandlerEntered s x t ∧ DebugAfterEntry s x t

/-! ## Reset in claims -/

/-- What is defined of the state after a reset, but for R0, R1 and memory: the registers it clears, the
constant bits, and the platform as before (70_reset_and_hazards.md R300, R302; 10_state.md R55). That no byte
stays marked is deduced, no rule of the spec says it (notes/assumptions/23.md). -/
structure AfterReset (s t : State) : Prop where
  pc : t.pc = 0
  psr : t.psr.toNat % 4096 = 0x200
  psrConstants : psrConstantsOk t.psr = true
  ed : t.cfgEd = false
  dcr : t.dcr &&& dcrDefined = 0
  dsr : t.dsr.toNat % 16 = 0
  pending : t.dbgPending = false
  isp : ispOk t.isp = true
  intbase : t.intbase.getLsbD 0 = false
  opState : t.opState = .reset
  stale : t.stale = []
  platform : t.platform = s.platform

/-! ## Interrupts during a multiply -/

/-- An interrupt is accepted while the instruction executes: what suspends a multiply (60_exceptions.md R266). -/
def State.interruptsMultiply (s : State) : Prop := s.acceptedInterrupt s.pins.duringMul ≠ none

/-! ## Where an instruction stores -/

/-- The bytes a run of PUSH, POP or POPRET of n registers may leave open where it reaches R15
(93_implementation_defined.md U12, the total treatment; notes/assumptions/25.md). -/
def openStack (s : State) (c : BitVec 2) (r : Reg) : List Addr :=
  if 15 ≤ r.val + c.toNat then stackBytes (s.reg 15) (c.toNat + 1) else []

/-- The addresses of the bytes an instruction stores to in s; none for a form that stores nothing, the frame
for EXCP and for a suspended multiply (20_memory.md R61, R64; 60_exceptions.md R262, R266). For a run that
reaches R15 they are the model's choice (openStack; notes/assumptions/25.md). -/
def storedBytes (i : Instr) (s : State) : List Addr :=
  match i with
  | .storbDisp5 _ disp base => [s.eaDisp5 base disp]
  | .storbDisp18 _ disp base => [s.eaDisp18 base disp]
  | .storbFar _ disp base => [s.eaFar base disp]
  | .storbAbs _ addr => [eaAbs addr]
  | .storbImmBase _ base => [s.eaBase base]
  | .storbImmDisp16 _ disp base => [s.eaDisp16 base disp]
  | .storbImmAbs _ addr => [eaAbs addr]
  | .sbitbBase _ base => [s.eaBase base]
  | .sbitbDisp16 _ disp base => [s.eaDisp16 base disp]
  | .sbitbAbs _ addr => [eaAbs addr]
  | .cbitbBase _ base => [s.eaBase base]
  | .cbitbDisp16 _ disp base => [s.eaDisp16 base disp]
  | .cbitbAbs _ addr => [eaAbs addr]
  | .storwDisp5 _ disp base => wordBytes (s.eaDisp5 base disp)
  | .storwDisp18 _ disp base => wordBytes (s.eaDisp18 base disp)
  | .storwFar _ disp base => wordBytes (s.eaFar base disp)
  | .storwAbs _ addr => wordBytes (eaAbs addr)
  | .storwImmBase _ base => wordBytes (s.eaBase base)
  | .storwImmDisp16 _ disp base => wordBytes (s.eaDisp16 base disp)
  | .storwImmAbs _ addr => wordBytes (eaAbs addr)
  | .sbitwBase _ base => wordBytes (s.eaBase base)
  | .sbitwDisp16 _ disp base => wordBytes (s.eaDisp16 base disp)
  | .sbitwAbs _ addr => wordBytes (eaAbs addr)
  | .cbitwBase _ base => wordBytes (s.eaBase base)
  | .cbitwDisp16 _ disp base => wordBytes (s.eaDisp16 base disp)
  | .cbitwAbs _ addr => wordBytes (eaAbs addr)
  | .push c _ => stackBytes (s.reg 15 - BitVec.ofNat 16 (2 * (c.toNat + 1))) (c.toNat + 1)
  | .pop c r => openStack s c r
  | .popretSmall c r => openStack s c r
  | .popretLarge c r => openStack s c r
  | .storm c => stackBytes (s.reg 1) (c.toNat + 1)
  | .excp _ => frameBytes s
  | _ => if isMultiply i && (s.acceptedInterrupt s.pins.duringMul).isSome then frameBytes s else []

end Sys2Proof.Machine
end

