-- ==== Sys2Proof/Certificates/Slice0/Obligations.lean ====
section
/-! DEFINITION. The statements for the provers. Each is over every state and operand its premises admit;
the vocabulary is that of Sys2Proof/Safety.lean. -/

open Sys2Proof Sys2Proof.Machine

/-- Words of 95_test_vectors.md, section 1, decode to the instructions named there (a sanity statement). -/
def Obligations.DecodeSampleWords : Prop :=
  decode 0b0100000001100001#16 0 = .ok (.addbReg 0 3) ∧
  decode 0b0011100001010000#16 0 = .ok (.movwImm5 0b10000#5 2) ∧
  decode 0b0110011100010110#16 0x00A7#16 = .ok (.movd 0x1700A7#21 8) ∧
  decode 0b1010110011001010#16 0 = .ok (.loadwDisp5 12 5 6) ∧
  decode 0b1111100011100101#16 0x0004#16 = .ok (.storwFar 7 4 2) ∧
  decode 0b0111010101001000#16 0x8F69#16 = .ok (.bloDisp21 0x188F68#21) ∧
  decode 0b0010010001000111#16 0x000C#16 = .ok (.sbitwDisp16 3 12 .r0) ∧
  decode 0b0001011110110000#16 0 = .ok (.jalLarge 13 8) ∧
  decode 0b0110110001001010#16 0 = .ok (.push 2 5) ∧
  decode 0b0111111001010000#16 0 = .ok (.muluw .r8 2) ∧
  decode 0b0111000000100010#16 0 = .ok (.lpr 1 1) ∧
  decode 0b0111101111101010#16 0 = .ok (.excp 5)

/-- No bit of an encoding is dropped: the decoder reads back every well-formed instruction (30_encoding.md R91 to R112). -/
def Obligations.DecodeEncodeRoundTrip : Prop :=
  ∀ (i : Instr) (rest : List Word), i.WellFormed → decodeWords (encode i ++ rest) = .ok i

/-- The encoding is unambiguous in the other direction too (30_encoding.md R91 to R115). -/
def Obligations.EncodeDecodeRoundTrip : Prop :=
  ∀ (w w2 : Word) (i : Instr), decode w w2 = .ok i →
    i.WellFormed ∧ ((encode i = [w] ∧ i.length = 2) ∨ (encode i = [w, w2] ∧ i.length = 4))

/-- 30_encoding.md R92: the length of an instruction is decided by its first word alone. -/
def Obligations.LengthFromFirstWord : Prop :=
  ∀ (i : Instr) (w : Word) (rest : List Word), i.WellFormed → encode i = w :: rest →
    instrLength w = i.length ∧ 2 * (rest.length + 1) = i.length

/-- 30_encoding.md R113, and how an undefined instruction is executed (60_exceptions.md R253, R265, R271). That every word the decoder rejects, those of R114 (a) to (g) too, takes UND is 92_eei_decisions.md D7 (notes/assumptions/10.md). -/
def Obligations.UndefinedInstructionTraps : Prop :=
  (∀ (op4 op2 op1 : BitVec 4) (w2 : Word),
    (op4 = 15 ∧ op2 ≠ 15 ∧ op1 = 3) ∨ (op4 = 15 ∧ op2.getLsbD 3 = true ∧ op1 = 2) ∨
    (op4 = 15 ∧ (op1 = 10 ∨ op1 = 11)) ∨ (op4 = 14 ∧ op2.getLsbD 1 = false) →
    ∃ e, decode (wordOf ⟨false, true, true, op4, op2, op1, false⟩) w2 = .error e) ∧
  (∀ (s : State) (w : Word), s.quietStep → s.storedWord s.pc → s.marked s.pc = false →
    s.marked (s.pc + 1) = false → w.toNat = s.wordAt s.pc → (∀ w2, ∃ e, decode w w2 = .error e) →
    ∃ n, step s = .next ((s.sample.beginInstruction.setFresh n).takeException .und s.pc))

/-- 60_exceptions.md R271: the instruction at pc is fetched, decoded and executed. Nothing is added around exec but the sampling of the inputs and the start of the instruction (R258, R282). -/
def Obligations.StepRunsDecodedInstruction : Prop :=
  ∀ (s : State) (i : Instr), i.WellFormed → s.quietStep → s.holdsAtPc i →
    step s = exec i s.sample.beginInstruction

/-- 60_exceptions.md R258 (P takes T at the beginning of each instruction) and R282 (the PC match; the role of CBE is the parameter of 92_eei_decisions.md D17). Sampling is the model's (notes/assumptions/4.md). -/
def Obligations.InstructionStart : Prop :=
  ∀ s : State,
    (let t := s.beginInstruction
     let hit : Prop := s.dcr.getLsbD dcrDen = true ∧ s.dcr.getLsbD dcrPc = true ∧ s.pc = s.car ∧
       (s.platform.pcMatchUsesCbe = true → s.dcr.getLsbD 0 = true)
     t.flag psrP = s.flag psrT ∧ FlagsBut s t [psrP] ∧ RegsBut s t [] ∧ t.pc = s.pc ∧
     MemoryBut s t [] ∧ SpecialsKept s t ∧ t.opState = s.opState ∧ t.stale = s.stale ∧
     (hit → t.dbgPending = true ∧
       (∀ k, t.dsr.getLsbD k = (s.dsr.getLsbD k || decide (k = dsrBpc))) ∧
       (∀ k, t.dcr.getLsbD k = (s.dcr.getLsbD k && decide (k ≠ dcrDen)))) ∧
     (¬ hit → DebugKept s t)) ∧
    (let t := s.sample
     RegsBut s t [] ∧ t.pc = s.pc ∧ specialsOf t = specialsOf s ∧ MemoryBut s t [] ∧
     t.opState = s.opState ∧ t.dbgPending = s.dbgPending ∧ t.stale = s.stale ∧ t.platform = s.platform)

/-- 60_exceptions.md R270. -/
def Obligations.BoundaryPriority : Prop :=
  ∀ s : State, s.opState = .executing → s.noReset →
    let u := s.sample
    let dbg : Prop := u.dbgPending = true ∨ (u.dcr.getLsbD dcrEfb = true ∧ u.pins.tag = true)
    let q := u.pins.atBoundary
    let int : Prop := q.int = true ∧ u.flag psrE = true ∧ u.flag psrI = true
    (dbg → step s = .next (u.takeException .dbg s.pc)) ∧
    (¬ dbg → q.nmi = true → step s = .next (u.takeException .nmi s.pc)) ∧
    (¬ dbg → q.nmi = false → int → step s = .next (u.takeException .int s.pc)) ∧
    (¬ dbg → q.nmi = false → ¬ int → q.ise = true → step s = .next (u.takeException .ise s.pc)) ∧
    (¬ dbg → q.nmi = false → ¬ int → q.ise = false → u.flag psrP = true →
      step s = .next (u.takeException .trc s.pc)) ∧
    (¬ dbg → q.nmi = false → ¬ int → q.ise = false → u.flag psrP = false →
      step s = u.executeInstruction ∧ u.beginInstruction.flag psrP = u.flag psrT)

/-- 60_exceptions.md R272 and R288, with decision D11 of 92_eei_decisions.md on masked requests (notes/assumptions/13.md). -/
def Obligations.WaitState : Prop :=
  ∀ s : State, s.opState = .waiting → s.noReset →
    let u := s.sample
    let q := u.pins.atBoundary
    let int : Prop := q.int = true ∧ u.flag psrE = true ∧ u.flag psrI = true
    (q.nmi = true → step s = .next (u.takeException .nmi s.pc)) ∧
    (q.nmi = false → int → step s = .next (u.takeException .int s.pc)) ∧
    (q.nmi = false → ¬ int → q.ise = true → step s = .next (u.takeException .ise s.pc)) ∧
    (q.nmi = false → ¬ int → q.ise = false → step s = .next u)

/-- 20_memory.md R77 with decision D6 of 92_eei_decisions.md; that the old contents are those of the last serializing operation, and one choice per fetched word, is the model's (notes/assumptions/9.md). -/
def Obligations.FetchOldOrNew : Prop :=
  ∀ (s : State) (a : Addr), s.storedWord a →
    (s.marked a = false → s.marked (a + 1) = false →
      (s.fetchWord a).1.toNat = s.wordAt a ∧ (s.fetchWord a).2 = s) ∧
    ((s.fetchWord a).1.toNat = s.wordAt a ∨
      (s.fetchWord a).1.toNat = ((markOf s.stale a.toNat).getD (s.byteAt a)).toNat +
        256 * ((markOf s.stale (a + 1).toNat).getD (s.byteAt (a + 1))).toNat)

/-- 70_reset_and_hazards.md R300 and R302; 60_exceptions.md R289 on leaving the Reset state, also where a reset arrives inside the step that leaves it. That a held reset input acts once is the model's (notes/assumptions/28.md), that a reset clears the marks of stored bytes is deduced (notes/assumptions/23.md). -/
def Obligations.ResetEvent : Prop :=
  (∀ s : State, s.sample.pins.reset = true →
    (s.opState ≠ .reset → Completes (step s) fun t =>
      (t.reg 0).toNat = s.pc.toNat / 2 % 2 ^ 16 ∧
      (t.reg 1).toNat = s.pc.toNat / 2 ^ 17 * 4096 + s.psr.toNat % 4096 ∧
      MemoryBut s t [] ∧ AfterReset s t) ∧
    (s.opState = .reset → step s = .next s.sample)) ∧
  (∀ s : State, s.opState = .reset → s.sample.pins.reset = false → step s = step (s.setOpState .executing))

/-- 70_reset_and_hazards.md R301 and 93_implementation_defined.md U9, then R300: PC is that of the terminated instruction (10_state.md R26). That an entry at the boundary and the wait state have nothing to terminate is the model's reading (notes/assumptions/22.md), that a reset clears the marks of stored bytes is deduced (notes/assumptions/23.md). A released Reset state is in ResetEvent. -/
def Obligations.ResetInsideStep : Prop :=
  ∀ s : State, s.sample.pins.reset = false → s.sample.pins.resetInside = true →
    let u := s.sample
    let v := u.beginInstruction
    let lost (i : Instr) : List Nat :=
      if isMultiply i && (v.acceptedInterrupt v.pins.duringMul).isSome then [psrI, psrP, psrT] else flagsWritten i
    let Terminated (ks : List Nat) (as : List Addr) (t : State) : Prop :=
      (t.reg 0).toNat = s.pc.toNat / 2 % 2 ^ 16 ∧ (t.reg 1).toNat / 4096 = s.pc.toNat / 2 ^ 17 ∧
      (∀ k < 12, k ∉ ks ∨ k ∈ [3, 4, 8] →
        (t.reg 1).getLsbD k = if k = psrP then s.flag psrT else s.flag k) ∧
      MemoryBut s t as ∧ AfterReset s t
    (s.opState = .executing → u.boundaryException = none →
      (∀ (i : Instr) (c : State), i.WellFormed → s.holdsAtPc i → exec i v = .next c →
        Completes (step s) (Terminated (lost i) (storedBytes i v))) ∧
      (∀ (i : Instr) (c : State), v.fetch.1 = .ok i → exec i v.fetch.2 = .next c →
        Completes (step s) (Terminated (lost i) (storedBytes i v))) ∧
      (∀ e, v.fetch.1 = .error e → Completes (step s) (Terminated [psrP, psrT] (frameBytes v)))) ∧
    (s.opState = .waiting → u.acceptedInterrupt u.pins.atBoundary = none → step s = .next u.resetEvent) ∧
    (∀ x, s.opState = .executing ∧ u.boundaryException = some x ∨
        s.opState = .waiting ∧ u.acceptedInterrupt u.pins.atBoundary = some x →
      step s = .next (u.takeException x s.pc).resetEvent) ∧
    (∀ w : State, Completes (.next w.resetEvent) fun t =>
      (t.reg 0).toNat = w.pc.toNat / 2 % 2 ^ 16 ∧
      (t.reg 1).toNat = w.pc.toNat / 2 ^ 17 * 4096 + w.psr.toNat % 4096 ∧ MemoryBut w t [] ∧ AfterReset w t)

/-- 10_state.md R55 and 70_reset_and_hazards.md R302, the defined values only; that nothing is marked is deduced (notes/assumptions/23.md), that the reset input is already released the model's (notes/assumptions/28.md). -/
def Obligations.ResetState : Prop :=
  State.reset.pc = 0 ∧ State.reset.psr.toNat % 4096 = 0x200 ∧ State.reset.cfgEd = false ∧
  State.reset.dcr &&& dcrDefined = 0 ∧ State.reset.dsr.toNat % 16 = 0 ∧
  State.reset.dbgPending = false ∧ ispOk State.reset.isp = true ∧
  State.reset.intbase.getLsbD 0 = false ∧ psrConstantsOk State.reset.psr = true ∧
  State.reset.opState = .executing ∧ State.reset.stale = []

/-- The premise of StepKeepsInvariant holds at reset. -/
def Obligations.ResetInvariant : Prop :=
  State.reset.Inv

/-- 10_state.md R26 (PC bit 0 is always 0), R28 and R36 (PSR bits 3, 4, 8), R37 (ISP), R38 (INTBASE bit 0); canonical memory is the model's (notes/assumptions/2.md). -/
def Obligations.StepKeepsInvariant : Prop :=
  ∀ s t : State, s.Inv → step s = .next t → t.Inv

/-- 10_state.md R41: DBGL is a set-once bit, cleared only by reset, that locks the four dispatch bits. -/
def Obligations.DebugLockKept : Prop :=
  ∀ s t : State, s.dcr.getLsbD dcrDbgl = true → s.noReset → step s = .next t →
    ∀ k ∈ [dcrAbpt, dcrAtrc, dcrAdbg, dcrAise, dcrDbgl], t.dcr.getLsbD k = s.dcr.getLsbD k

/-- 10_state.md R28: status bits are modified only by instructions specified to do so. -/
def Obligations.FlagsOnlyWhereSpecified : Prop :=
  ∀ (i : Instr) (s t : State), exec i s = .next t →
    (isMultiply i = true ∧ s.interruptsMultiply → FlagsBut s t [psrI, psrP, psrT]) ∧
    (¬ (isMultiply i = true ∧ s.interruptsMultiply) → FlagsBut s t (flagsWritten i))

/-- 10_state.md R42: hardware only sets DSR bits; R41: hardware clears DEN and EFB only; R38, R39, R43 name LPR as the only writer. -/
def Obligations.SpecialsOnlyByLpr : Prop :=
  ∀ (i : Instr) (s t : State), (∀ src c, i ≠ .lpr src c) → exec i s = .next t →
    t.intbase = s.intbase ∧ t.cfg = s.cfg ∧ t.car = s.car ∧
    (∀ k, s.dsr.getLsbD k = true → t.dsr.getLsbD k = true) ∧
    (∀ k, s.dcr.getLsbD k = false → t.dcr.getLsbD k = false)

/-- 00_scope.md R7: the platform parameters are fixed for a run. That they stand in State is the model's (notes/assumptions/5.md). -/
def Obligations.PlatformFixed : Prop :=
  ∀ s t : State, step s = .next t → t.platform = s.platform

/-- 20_memory.md R61, R64, R70: no other instruction touches memory and no other byte changes. Four things in it are the model's choice or deduced: the bytes of a PUSH, POP or POPRET run that reaches R15 are those the total treatment of 93_implementation_defined.md U12 leaves open, where the spec's default is to refuse (notes/assumptions/25.md); the addresses of runs, frames and words wrap by 92_eei_decisions.md D3, D4 (notes/assumptions/7.md); where no RAM stands no byte changes by D5 (notes/assumptions/26.md); the record of stored bytes in the third and fourth clause (notes/assumptions/6.md). -/
def Obligations.MemoryChangesOnlyWhereStored : Prop :=
  ∀ (i : Instr) (s t : State), exec i s = .next t →
    MemoryBut s t (storedBytes i s) ∧ (∀ a, ¬ s.isRam a → t.byteAt a = s.byteAt a) ∧
    (∀ n, n ∈ s.written → n ∈ t.written) ∧
    (∀ n, n ∈ t.written → n ∈ s.written ∨ ∃ a, a ∈ storedBytes i s ∧ n = a.toNat ∧ s.isRam a)

/-- 20_memory.md R63, R64 on RAM; that the second byte wraps is 92_eei_decisions.md D3 (notes/assumptions/7.md), and what other addresses do is the platform's (R70, D5, notes/assumptions/26.md). -/
def Obligations.WordReadAndWrite : Prop :=
  ∀ (s : State) (a : Addr), s.mem.wf = true →
    (∀ v : Byte, ByteStored s (s.writeByte a v) a v.toNat ∧ MemoryBut s (s.writeByte a v) [a]) ∧
    (∀ v : Word, WordStored s (s.writeWord a v) a v.toNat ∧ MemoryBut s (s.writeWord a v) [a, a + 1] ∧
      (a + 1).toNat = (a.toNat + 1) % 2 ^ 21 ∧
      (s.ramWord a → ((s.writeWord a v).readWord a).1 = v))

/-- 45_procreg_loadstore_misc.md R225 to R229 and 43_bits.md R181. -/
def Obligations.EffectiveAddresses : Prop :=
  ∀ (s : State) (base : Reg) (r : Restricted) (d5 : BitVec 5) (d18 : BitVec 18) (d16 : BitVec 16),
    (s.eaDisp5 base d5).toNat = ((s.reg base).toNat + d5.toNat) % 2 ^ 18 ∧
    ((s.eaDisp18 base d18).toNat : Int) = ((s.reg base).toNat + d18.toInt) % 2 ^ 18 ∧
    (s.eaDisp18 base d18).toNat = ((s.reg base).toNat + d18.toNat) % 2 ^ 18 ∧
    ((s.eaFar base d18).toNat : Int) =
      ((s.reg (base + 1)).toNat % 32 * 2 ^ 16 + (s.reg base).toNat + d18.toInt) % 2 ^ 21 ∧
    (eaAbs d18).toNat = d18.toNat ∧
    (s.eaBase r).toNat = (s.reg (restrictedReg r)).toNat ∧
    (s.eaDisp16 r d16).toNat = (s.reg (restrictedReg r)).toNat + d16.toNat

/-- 40_moves.md R130 and R131. -/
def Obligations.MoveCompletes : Prop :=
  (∀ (s : State) (d : Reg),
    AllForms 8 s (Instr.movbReg · d) (Instr.movbImm5 · d) (Instr.movbImm16 · d) (ResultEffect 8 s d) ∧
    AllForms 16 s (Instr.movwReg · d) (Instr.movwImm5 · d) (Instr.movwImm16 · d) (ResultEffect 16 s d)) ∧
  (∀ d r : Reg, WordIs (0x5801 + 32 * d.val + 2 * r.val) (.movbReg r d) ∧
    WordIs (0x7801 + 32 * d.val + 2 * r.val) (.movwReg r d)) ∧
  (∀ (d : Reg) (imm : BitVec 5), imm ≠ 17 → WordIs (0x1800 + 32 * d.val + imm.toNat) (.movbImm5 imm d) ∧
    WordIs (0x3800 + 32 * d.val + imm.toNat) (.movwImm5 imm d)) ∧
  (∀ (d : Reg) (imm : Word), WordsAre (0x1811 + 32 * d.val) imm.toNat (.movbImm16 imm d) ∧
    WordsAre (0x3811 + 32 * d.val) imm.toNat (.movwImm16 imm d))

/-- 40_moves.md R132; that Rdest 15 is refused is 93_implementation_defined.md U11 (notes/assumptions/24.md). -/
def Obligations.MovdCompletes : Prop :=
  (∀ (s : State) (imm : BitVec 21) (d : Reg),
    (d ≠ 15 → PairEffect s d imm.toNat 4 (exec (.movd imm d) s)) ∧
    (d = 15 → exec (.movd imm d) s = .refused .excludedRegisterPair)) ∧
  (∀ (imm : BitVec 21) (d : Reg),
    WordsAre (0x6400 + imm.toNat / 2 ^ 20 * 512 + 32 * d.val + imm.toNat / 2 ^ 16 % 2 * 16 + imm.toNat / 2 ^ 17 % 8 * 2)
      (imm.toNat % 2 ^ 16) (.movd imm d))

/-- 40_moves.md R133 and R134. -/
def Obligations.ExtendingMovesComplete : Prop :=
  (∀ (s : State) (r d : Reg),
    ResultEffect 16 s d (signedOf 8 (s.low 8 r) % 2 ^ 16).toNat 2 (exec (.movxb r d) s) ∧
    ResultEffect 16 s d (s.low 8 r) 2 (exec (.movzb r d) s)) ∧
  (∀ r d : Reg, WordIs (0x6800 + 32 * d.val + 2 * r.val) (.movxb r d) ∧
    WordIs (0x6A00 + 32 * d.val + 2 * r.val) (.movzb r d))

/-- 41_arithmetic.md R141 and R142 with the definitions of R140. -/
def Obligations.AddCompletes : Prop :=
  ∀ (s : State) (d : Reg),
    AllForms 8 s (Instr.addbReg · d) (Instr.addbImm5 · d) (Instr.addbImm16 · d) (AddEffect 8 s d 0) ∧
    AllForms 16 s (Instr.addwReg · d) (Instr.addwImm5 · d) (Instr.addwImm16 · d) (AddEffect 16 s d 0) ∧
    AllForms 8 s (Instr.addcbReg · d) (Instr.addcbImm5 · d) (Instr.addcbImm16 · d)
      (AddEffect 8 s d (s.flag psrC).toNat) ∧
    AllForms 16 s (Instr.addcwReg · d) (Instr.addcwImm5 · d) (Instr.addcwImm16 · d)
      (AddEffect 16 s d (s.flag psrC).toNat) ∧
    AllForms 8 s (Instr.addubReg · d) (Instr.addubImm5 · d) (Instr.addubImm16 · d)
      (fun b => ResultEffect 8 s d ((s.low 8 d + b) % 2 ^ 8)) ∧
    AllForms 16 s (Instr.adduwReg · d) (Instr.adduwImm5 · d) (Instr.adduwImm16 · d)
      (fun b => ResultEffect 16 s d ((s.low 16 d + b) % 2 ^ 16))

/-- 41_arithmetic.md R143 and R144 with the definitions of R140. -/
def Obligations.SubtractCompletes : Prop :=
  ∀ (s : State) (d : Reg),
    AllForms 8 s (Instr.subbReg · d) (Instr.subbImm5 · d) (Instr.subbImm16 · d) (SubEffect 8 s d 0) ∧
    AllForms 16 s (Instr.subwReg · d) (Instr.subwImm5 · d) (Instr.subwImm16 · d) (SubEffect 16 s d 0) ∧
    AllForms 8 s (Instr.subcbReg · d) (Instr.subcbImm5 · d) (Instr.subcbImm16 · d)
      (SubEffect 8 s d (s.flag psrC).toNat) ∧
    AllForms 16 s (Instr.subcwReg · d) (Instr.subcwImm5 · d) (Instr.subcwImm16 · d)
      (SubEffect 16 s d (s.flag psrC).toNat)

/-- 41_arithmetic.md R145. -/
def Obligations.MultiplyCompletes : Prop :=
  ∀ (s : State) (d : Reg), ¬ s.interruptsMultiply →
    AllForms 8 s (Instr.mulbReg · d) (Instr.mulbImm5 · d) (Instr.mulbImm16 · d)
      (fun b => ResultEffect 8 s d (s.low 8 d * b % 2 ^ 8)) ∧
    AllForms 16 s (Instr.mulwReg · d) (Instr.mulwImm5 · d) (Instr.mulwImm16 · d)
      (fun b => ResultEffect 16 s d (s.low 16 d * b % 2 ^ 16))

/-- 41_arithmetic.md R146, R151, R152; that Rdest 15 is refused is 93_implementation_defined.md U11 (notes/assumptions/24.md). -/
def Obligations.WideMultiplyCompletes : Prop :=
  (∀ (s : State) (r d : Reg) (q : Restricted), ¬ s.interruptsMultiply →
    ResultEffect 16 s d ((signedOf 8 (s.low 8 r) * signedOf 8 (s.low 8 d)) % 2 ^ 16).toNat 2
      (exec (.mulsb r d) s) ∧
    (d ≠ 15 → PairEffect s d ((signedOf 16 (s.low 16 r) * signedOf 16 (s.low 16 d)) % 2 ^ 32).toNat 2
      (exec (.mulsw r d) s)) ∧
    (d ≠ 15 → PairEffect s d (s.low 16 (restrictedReg q) * s.low 16 d) 2 (exec (.muluw q d) s)) ∧
    (d = 15 → exec (.mulsw r d) s = .refused .excludedRegisterPair ∧
      exec (.muluw q d) s = .refused .excludedRegisterPair)) ∧
  (∀ r d : Reg, WordIs (0x6000 + 32 * d.val + 2 * r.val) (.mulsb r d) ∧
    WordIs (0x6200 + 32 * d.val + 2 * r.val) (.mulsw r d)) ∧
  (∀ d : Reg, WordIs (0x7E00 + 32 * d.val) (.muluw .r0 d) ∧ WordIs (0x7E02 + 32 * d.val) (.muluw .r1 d) ∧
    WordIs (0x7E10 + 32 * d.val) (.muluw .r8 d) ∧ WordIs (0x7E12 + 32 * d.val) (.muluw .r9 d))

/-- 60_exceptions.md R266; that the environment decides whether the interrupt arrives during the multiply is 92_eei_decisions.md D14 (notes/assumptions/15.md). The entry's own conventions are those of ExceptionEntry (notes/assumptions/7.md, 30.md; for INT 21.md). -/
def Obligations.MultiplySuspended : Prop :=
  ∀ (i : Instr) (s : State) (x : Exception), isMultiply i = true →
    (∀ r, i ≠ .mulsw r 15) → (∀ q, i ≠ .muluw q 15) →
    s.acceptedInterrupt s.pins.duringMul = some x →
    exec i s = .next (((s.setFlag psrP false).setDbgPending false).takeException x s.pc) ∧
    Completes (exec i s) fun t => Entered ((s.setFlag psrP false).setDbgPending false) x s.pc t ∧
      RegsBut s t [] ∧ (∀ k ∈ [psrI, psrP, psrT], t.flag k = false)

/-- 42_compare_logic_shift.md R160. -/
def Obligations.CompareCompletes : Prop :=
  ∀ (s : State) (d : Reg),
    AllForms 8 s (Instr.cmpbReg · d) (Instr.cmpbImm5 · d) (Instr.cmpbImm16 · d) (CompareEffect 8 s d) ∧
    AllForms 16 s (Instr.cmpwReg · d) (Instr.cmpwImm5 · d) (Instr.cmpwImm16 · d) (CompareEffect 16 s d)

/-- 42_compare_logic_shift.md R161 to R165. -/
def Obligations.CompareAndBranchCompletes : Prop :=
  (∀ (s : State) (q : Restricted) (disp : BitVec 5),
    let b := s.low 8 (restrictedReg q)
    let w := s.low 16 (restrictedReg q)
    let tgt := (s.pc.toNat + disp.toNat) % 2 ^ 21
    BranchEffect s (b = 0) tgt 2 (exec (.beq0b q disp) s) ∧ BranchEffect s (w = 0) tgt 2 (exec (.beq0w q disp) s) ∧
    BranchEffect s (b ≠ 0) tgt 2 (exec (.bne0b q disp) s) ∧ BranchEffect s (w ≠ 0) tgt 2 (exec (.bne0w q disp) s) ∧
    BranchEffect s (b = 1) tgt 2 (exec (.beq1b q disp) s) ∧ BranchEffect s (w = 1) tgt 2 (exec (.beq1w q disp) s) ∧
    BranchEffect s (b ≠ 1) tgt 2 (exec (.bne1b q disp) s) ∧ BranchEffect s (w ≠ 1) tgt 2 (exec (.bne1w q disp) s)) ∧
  (∀ (b3 b0 : Bool) (disp : BitVec 5), disp.getLsbD 0 = false →
    let n := 256 * b3.toNat + 32 * b0.toNat + disp.toNat
    let q := restrictedOf b3 b0
    (restrictedReg q).val = 8 * b3.toNat + b0.toNat ∧
    WordIs (0x1401 + n) (.beq0b q disp) ∧ WordIs (0x3401 + n) (.beq0w q disp) ∧
    WordIs (0x1481 + n) (.bne0b q disp) ∧ WordIs (0x3481 + n) (.bne0w q disp) ∧
    WordIs (0x1441 + n) (.beq1b q disp) ∧ WordIs (0x3441 + n) (.beq1w q disp) ∧
    WordIs (0x14C1 + n) (.bne1b q disp) ∧ WordIs (0x34C1 + n) (.bne1w q disp))

/-- 42_compare_logic_shift.md R166 to R168. -/
def Obligations.LogicCompletes : Prop :=
  ∀ (s : State) (d : Reg),
    AllForms 8 s (Instr.andbReg · d) (Instr.andbImm5 · d) (Instr.andbImm16 · d)
      (fun b => ResultEffect 8 s d (s.low 8 d &&& b)) ∧
    AllForms 16 s (Instr.andwReg · d) (Instr.andwImm5 · d) (Instr.andwImm16 · d)
      (fun b => ResultEffect 16 s d (s.low 16 d &&& b)) ∧
    AllForms 8 s (Instr.orbReg · d) (Instr.orbImm5 · d) (Instr.orbImm16 · d)
      (fun b => ResultEffect 8 s d (s.low 8 d ||| b)) ∧
    AllForms 16 s (Instr.orwReg · d) (Instr.orwImm5 · d) (Instr.orwImm16 · d)
      (fun b => ResultEffect 16 s d (s.low 16 d ||| b)) ∧
    AllForms 8 s (Instr.xorbReg · d) (Instr.xorbImm5 · d) (Instr.xorbImm16 · d)
      (fun b => ResultEffect 8 s d (s.low 8 d ^^^ b)) ∧
    AllForms 16 s (Instr.xorwReg · d) (Instr.xorwImm5 · d) (Instr.xorwImm16 · d)
      (fun b => ResultEffect 16 s d (s.low 16 d ^^^ b))

/-- 42_compare_logic_shift.md R169, the conditions by 30_encoding.md R109. -/
def Obligations.ScondCompletes : Prop :=
  ∀ (s : State) (d : Reg), ∃ v : Cond → Nat, (∀ c, (CondTrue s c → v c = 1) ∧ (¬ CondTrue s c → v c = 0)) ∧
    ResultEffect 16 s d (v .eq) 2 (exec (.seq d) s) ∧ WordIs (0x6e00 + 2 * d.val) (.seq d) ∧
    ResultEffect 16 s d (v .ne) 2 (exec (.sne d) s) ∧ WordIs (0x6e20 + 2 * d.val) (.sne d) ∧
    ResultEffect 16 s d (v .cs) 2 (exec (.scs d) s) ∧ WordIs (0x6e40 + 2 * d.val) (.scs d) ∧
    ResultEffect 16 s d (v .cc) 2 (exec (.scc d) s) ∧ WordIs (0x6e60 + 2 * d.val) (.scc d) ∧
    ResultEffect 16 s d (v .hi) 2 (exec (.shi d) s) ∧ WordIs (0x6e80 + 2 * d.val) (.shi d) ∧
    ResultEffect 16 s d (v .ls) 2 (exec (.sls d) s) ∧ WordIs (0x6ea0 + 2 * d.val) (.sls d) ∧
    ResultEffect 16 s d (v .gt) 2 (exec (.sgt d) s) ∧ WordIs (0x6ec0 + 2 * d.val) (.sgt d) ∧
    ResultEffect 16 s d (v .le) 2 (exec (.sle d) s) ∧ WordIs (0x6ee0 + 2 * d.val) (.sle d) ∧
    ResultEffect 16 s d (v .fs) 2 (exec (.sfs d) s) ∧ WordIs (0x6f00 + 2 * d.val) (.sfs d) ∧
    ResultEffect 16 s d (v .fc) 2 (exec (.sfc d) s) ∧ WordIs (0x6f20 + 2 * d.val) (.sfc d) ∧
    ResultEffect 16 s d (v .lo) 2 (exec (.slo d) s) ∧ WordIs (0x6f40 + 2 * d.val) (.slo d) ∧
    ResultEffect 16 s d (v .hs) 2 (exec (.shs d) s) ∧ WordIs (0x6f60 + 2 * d.val) (.shs d) ∧
    ResultEffect 16 s d (v .lt) 2 (exec (.slt d) s) ∧ WordIs (0x6f80 + 2 * d.val) (.slt d) ∧
    ResultEffect 16 s d (v .ge) 2 (exec (.sge d) s) ∧ WordIs (0x6fa0 + 2 * d.val) (.sge d)

/-- 42_compare_logic_shift.md R170 to R172. -/
def Obligations.ShiftCompletes : Prop :=
  ∀ (s : State) (d : Reg),
    AllForms 8 s (Instr.ashubReg · d) (Instr.ashubImm5 · d) (Instr.ashubImm16 · d) (ShiftEffect 8 true s d) ∧
    AllForms 16 s (Instr.ashuwReg · d) (Instr.ashuwImm5 · d) (Instr.ashuwImm16 · d) (ShiftEffect 16 true s d) ∧
    AllForms 8 s (Instr.lshbReg · d) (Instr.lshbImm5 · d) (Instr.lshbImm16 · d) (ShiftEffect 8 false s d) ∧
    AllForms 16 s (Instr.lshwReg · d) (Instr.lshwImm5 · d) (Instr.lshwImm16 · d) (ShiftEffect 16 false s d)

/-- 43_bits.md R183. -/
def Obligations.TbitCompletes : Prop :=
  ∀ (s : State) (d : Reg),
    AllForms 16 s (Instr.tbitReg · d) (Instr.tbitImm5 · d) (Instr.tbitImm16 · d)
      (fun pos len o => Completes o fun t =>
        (pos ≤ 15 → t.flag psrF = (s.reg d).toNat.testBit pos) ∧ FlagsBut s t [psrF] ∧ RegsBut s t [] ∧
        PcAfter s t len ∧ RegisterOnly s t)

/-- 43_bits.md R180, R181, R184. -/
def Obligations.MemoryBitTestCompletes : Prop :=
  ∀ (s : State) (pos : BitVec 4) (q : Restricted) (disp : BitVec 16) (addr : BitVec 18),
    TestBitEffect 8 s (s.eaBase q) pos.toNat 2 (exec (.tbitbBase pos q) s) ∧
    TestBitEffect 8 s (s.eaDisp16 q disp) pos.toNat 4 (exec (.tbitbDisp16 pos disp q) s) ∧
    TestBitEffect 8 s (eaAbs addr) pos.toNat 4 (exec (.tbitbAbs pos addr) s) ∧
    TestBitEffect 16 s (s.eaBase q) pos.toNat 2 (exec (.tbitwBase pos q) s) ∧
    TestBitEffect 16 s (s.eaDisp16 q disp) pos.toNat 4 (exec (.tbitwDisp16 pos disp q) s) ∧
    TestBitEffect 16 s (eaAbs addr) pos.toNat 4 (exec (.tbitwAbs pos addr) s)

/-- 43_bits.md R180, R181, R185, R186. The stored address is the model's own function of the operands, stated as a number in EffectiveAddresses. -/
def Obligations.MemoryBitChangeCompletes : Prop :=
  ∀ (s : State) (pos : BitVec 4) (q : Restricted) (disp : BitVec 16) (addr : BitVec 18),
    ChangeByteEffect s (s.eaBase q) pos.toNat true 2 (exec (.sbitbBase pos q) s) ∧
    ChangeByteEffect s (s.eaDisp16 q disp) pos.toNat true 4 (exec (.sbitbDisp16 pos disp q) s) ∧
    ChangeByteEffect s (eaAbs addr) pos.toNat true 4 (exec (.sbitbAbs pos addr) s) ∧
    ChangeWordEffect s (s.eaBase q) pos.toNat true 2 (exec (.sbitwBase pos q) s) ∧
    ChangeWordEffect s (s.eaDisp16 q disp) pos.toNat true 4 (exec (.sbitwDisp16 pos disp q) s) ∧
    ChangeWordEffect s (eaAbs addr) pos.toNat true 4 (exec (.sbitwAbs pos addr) s) ∧
    ChangeByteEffect s (s.eaBase q) pos.toNat false 2 (exec (.cbitbBase pos q) s) ∧
    ChangeByteEffect s (s.eaDisp16 q disp) pos.toNat false 4 (exec (.cbitbDisp16 pos disp q) s) ∧
    ChangeByteEffect s (eaAbs addr) pos.toNat false 4 (exec (.cbitbAbs pos addr) s) ∧
    ChangeWordEffect s (s.eaBase q) pos.toNat false 2 (exec (.cbitwBase pos q) s) ∧
    ChangeWordEffect s (s.eaDisp16 q disp) pos.toNat false 4 (exec (.cbitwDisp16 pos disp q) s) ∧
    ChangeWordEffect s (eaAbs addr) pos.toNat false 4 (exec (.cbitwAbs pos addr) s)

/-- 44_jumps_linkage.md R190 to R194, the conditions by 30_encoding.md R109. -/
def Obligations.BranchCompletes : Prop :=
  ∀ (s : State) (d9 : BitVec 9) (d17 : BitVec 17) (d21 : BitVec 21),
    let t9 := ((s.pc.toNat + d9.toInt) % 2 ^ 21).toNat
    let t17 := ((s.pc.toNat + d17.toInt) % 2 ^ 17).toNat
    let t21 := (s.pc.toNat + d21.toNat) % 2 ^ 21
    BranchEffect s (CondTrue s .eq) t9 2 (exec (.beqDisp9 d9) s) ∧
    BranchEffect s (CondTrue s .eq) t17 4 (exec (.beqDisp17 d17) s) ∧
    BranchEffect s (CondTrue s .eq) t21 4 (exec (.beqDisp21 d21) s) ∧
    BranchEffect s (CondTrue s .ne) t9 2 (exec (.bneDisp9 d9) s) ∧
    BranchEffect s (CondTrue s .ne) t17 4 (exec (.bneDisp17 d17) s) ∧
    BranchEffect s (CondTrue s .ne) t21 4 (exec (.bneDisp21 d21) s) ∧
    BranchEffect s (CondTrue s .cs) t9 2 (exec (.bcsDisp9 d9) s) ∧
    BranchEffect s (CondTrue s .cs) t17 4 (exec (.bcsDisp17 d17) s) ∧
    BranchEffect s (CondTrue s .cs) t21 4 (exec (.bcsDisp21 d21) s) ∧
    BranchEffect s (CondTrue s .cc) t9 2 (exec (.bccDisp9 d9) s) ∧
    BranchEffect s (CondTrue s .cc) t17 4 (exec (.bccDisp17 d17) s) ∧
    BranchEffect s (CondTrue s .cc) t21 4 (exec (.bccDisp21 d21) s) ∧
    BranchEffect s (CondTrue s .hi) t9 2 (exec (.bhiDisp9 d9) s) ∧
    BranchEffect s (CondTrue s .hi) t17 4 (exec (.bhiDisp17 d17) s) ∧
    BranchEffect s (CondTrue s .hi) t21 4 (exec (.bhiDisp21 d21) s) ∧
    BranchEffect s (CondTrue s .ls) t9 2 (exec (.blsDisp9 d9) s) ∧
    BranchEffect s (CondTrue s .ls) t17 4 (exec (.blsDisp17 d17) s) ∧
    BranchEffect s (CondTrue s .ls) t21 4 (exec (.blsDisp21 d21) s) ∧
    BranchEffect s (CondTrue s .gt) t9 2 (exec (.bgtDisp9 d9) s) ∧
    BranchEffect s (CondTrue s .gt) t17 4 (exec (.bgtDisp17 d17) s) ∧
    BranchEffect s (CondTrue s .gt) t21 4 (exec (.bgtDisp21 d21) s) ∧
    BranchEffect s (CondTrue s .le) t9 2 (exec (.bleDisp9 d9) s) ∧
    BranchEffect s (CondTrue s .le) t17 4 (exec (.bleDisp17 d17) s) ∧
    BranchEffect s (CondTrue s .le) t21 4 (exec (.bleDisp21 d21) s) ∧
    BranchEffect s (CondTrue s .fs) t9 2 (exec (.bfsDisp9 d9) s) ∧
    BranchEffect s (CondTrue s .fs) t17 4 (exec (.bfsDisp17 d17) s) ∧
    BranchEffect s (CondTrue s .fs) t21 4 (exec (.bfsDisp21 d21) s) ∧
    BranchEffect s (CondTrue s .fc) t9 2 (exec (.bfcDisp9 d9) s) ∧
    BranchEffect s (CondTrue s .fc) t17 4 (exec (.bfcDisp17 d17) s) ∧
    BranchEffect s (CondTrue s .fc) t21 4 (exec (.bfcDisp21 d21) s) ∧
    BranchEffect s (CondTrue s .lo) t9 2 (exec (.bloDisp9 d9) s) ∧
    BranchEffect s (CondTrue s .lo) t17 4 (exec (.bloDisp17 d17) s) ∧
    BranchEffect s (CondTrue s .lo) t21 4 (exec (.bloDisp21 d21) s) ∧
    BranchEffect s (CondTrue s .hs) t9 2 (exec (.bhsDisp9 d9) s) ∧
    BranchEffect s (CondTrue s .hs) t17 4 (exec (.bhsDisp17 d17) s) ∧
    BranchEffect s (CondTrue s .hs) t21 4 (exec (.bhsDisp21 d21) s) ∧
    BranchEffect s (CondTrue s .lt) t9 2 (exec (.bltDisp9 d9) s) ∧
    BranchEffect s (CondTrue s .lt) t17 4 (exec (.bltDisp17 d17) s) ∧
    BranchEffect s (CondTrue s .lt) t21 4 (exec (.bltDisp21 d21) s) ∧
    BranchEffect s (CondTrue s .ge) t9 2 (exec (.bgeDisp9 d9) s) ∧
    BranchEffect s (CondTrue s .ge) t17 4 (exec (.bgeDisp17 d17) s) ∧
    BranchEffect s (CondTrue s .ge) t21 4 (exec (.bgeDisp21 d21) s) ∧
    JumpEffect s [] t9 (exec (.brDisp9 d9) s) ∧ JumpEffect s [] t17 (exec (.brDisp17 d17) s) ∧
    JumpEffect s [] t21 (exec (.brDisp21 d21) s)

/-- 44_jumps_linkage.md R195 to R197; zeros above the four high link bits are 92_eei_decisions.md D9 (notes/assumptions/12.md), that the pairs of RA and SP are refused is 93_implementation_defined.md U11 (notes/assumptions/24.md). -/
def Obligations.BranchAndLinkCompletes : Prop :=
  ∀ (s : State) (l : Reg) (d17 : BitVec 17) (d21 : BitVec 21),
    let nxt := (s.pc.toNat + 4) % 2 ^ 21
    (JumpEffect s [l] ((s.pc.toNat + d17.toInt) % 2 ^ 17).toNat (exec (.balSmall l d17) s) ∧
      Completes (exec (.balSmall l d17) s) fun t => (t.reg l).toNat = nxt / 2 % 2 ^ 16) ∧
    (l ≠ 14 → l ≠ 15 →
      JumpEffect s [l, l + 1] ((s.pc.toNat + d21.toNat) % 2 ^ 21) (exec (.balLarge l d21) s) ∧
      Completes (exec (.balLarge l d21) s) fun t =>
        (t.reg l).toNat = nxt / 2 % 2 ^ 16 ∧ (t.reg (l + 1)).toNat = nxt / 2 ^ 17) ∧
    (l = 14 ∨ l = 15 → exec (.balLarge l d21) s = .refused .excludedRegisterPair)

/-- 44_jumps_linkage.md R190 and R198 to R200; that a taken jump by the pair of RA or SP is refused is 93_implementation_defined.md U11 (notes/assumptions/24.md). -/
def Obligations.JumpCompletes : Prop :=
  ∀ (s : State) (r : Reg),
    let small := 2 * (s.reg r).toNat
    let large := (s.reg (r + 1)).toNat % 16 * 2 ^ 17 + 2 * (s.reg r).toNat
    let ok : Prop := r ≠ 14 ∧ r ≠ 15
    let Large (p : Prop) (o : Result) : Prop :=
      (ok ∨ ¬ p → BranchEffect s p large 2 o) ∧ (¬ ok → p → o = .refused .excludedRegisterPair)
    BranchEffect s (CondTrue s .eq) small 2 (exec (.jeqSmall r) s) ∧
    Large (CondTrue s .eq) (exec (.jeqLarge r) s) ∧
    BranchEffect s (CondTrue s .ne) small 2 (exec (.jneSmall r) s) ∧
    Large (CondTrue s .ne) (exec (.jneLarge r) s) ∧
    BranchEffect s (CondTrue s .cs) small 2 (exec (.jcsSmall r) s) ∧
    Large (CondTrue s .cs) (exec (.jcsLarge r) s) ∧
    BranchEffect s (CondTrue s .cc) small 2 (exec (.jccSmall r) s) ∧
    Large (CondTrue s .cc) (exec (.jccLarge r) s) ∧
    BranchEffect s (CondTrue s .hi) small 2 (exec (.jhiSmall r) s) ∧
    Large (CondTrue s .hi) (exec (.jhiLarge r) s) ∧
    BranchEffect s (CondTrue s .ls) small 2 (exec (.jlsSmall r) s) ∧
    Large (CondTrue s .ls) (exec (.jlsLarge r) s) ∧
    BranchEffect s (CondTrue s .gt) small 2 (exec (.jgtSmall r) s) ∧
    Large (CondTrue s .gt) (exec (.jgtLarge r) s) ∧
    BranchEffect s (CondTrue s .le) small 2 (exec (.jleSmall r) s) ∧
    Large (CondTrue s .le) (exec (.jleLarge r) s) ∧
    BranchEffect s (CondTrue s .fs) small 2 (exec (.jfsSmall r) s) ∧
    Large (CondTrue s .fs) (exec (.jfsLarge r) s) ∧
    BranchEffect s (CondTrue s .fc) small 2 (exec (.jfcSmall r) s) ∧
    Large (CondTrue s .fc) (exec (.jfcLarge r) s) ∧
    BranchEffect s (CondTrue s .lo) small 2 (exec (.jloSmall r) s) ∧
    Large (CondTrue s .lo) (exec (.jloLarge r) s) ∧
    BranchEffect s (CondTrue s .hs) small 2 (exec (.jhsSmall r) s) ∧
    Large (CondTrue s .hs) (exec (.jhsLarge r) s) ∧
    BranchEffect s (CondTrue s .lt) small 2 (exec (.jltSmall r) s) ∧
    Large (CondTrue s .lt) (exec (.jltLarge r) s) ∧
    BranchEffect s (CondTrue s .ge) small 2 (exec (.jgeSmall r) s) ∧
    Large (CondTrue s .ge) (exec (.jgeLarge r) s) ∧
    JumpEffect s [] small (exec (.jumpSmall r) s) ∧ Large True (exec (.jumpLarge r) s)

/-- 44_jumps_linkage.md R201 and R202; the order is 92_eei_decisions.md D16 (notes/assumptions/17.md), zeros above the four high link bits are D9 (notes/assumptions/12.md), that the excluded and overlapping pairs are refused is 93_implementation_defined.md U11 (notes/assumptions/24.md). -/
def Obligations.JumpAndLinkCompletes : Prop :=
  ∀ (s : State) (l r : Reg),
    let nxt := (s.pc.toNat + 2) % 2 ^ 21
    let ok : Prop := l.val < 14 ∧ r.val < 14 ∧ l.val + 1 ≠ r.val ∧ r.val + 1 ≠ l.val
    (JumpEffect s [l] (2 * (s.reg r).toNat) (exec (.jalSmall l r) s) ∧
      Completes (exec (.jalSmall l r) s) fun t => (t.reg l).toNat = nxt / 2 % 2 ^ 16) ∧
    (ok → JumpEffect s [l, l + 1] ((s.reg (r + 1)).toNat % 16 * 2 ^ 17 + 2 * (s.reg r).toNat)
        (exec (.jalLarge l r) s) ∧
      Completes (exec (.jalLarge l r) s) fun t =>
        (t.reg l).toNat = nxt / 2 % 2 ^ 16 ∧ (t.reg (l + 1)).toNat = nxt / 2 ^ 17) ∧
    (¬ ok → exec (.jalLarge l r) s = .refused .excludedRegisterPair)

/-- 44_jumps_linkage.md R205 and R206; wrapping of SP is 92_eei_decisions.md D4 (notes/assumptions/7.md), the order of the compared accesses D12 (notes/assumptions/12.md). -/
def Obligations.PushCompletes : Prop :=
  (∀ (s : State) (c : BitVec 2) (r : Reg), r.val + c.toNat < 15 →
    let n := c.toNat + 1
    let a := s.reg 15 - BitVec.ofNat 16 (2 * n)
    Completes (exec (.push c r) s) fun t =>
      (s.mem.wf = true → WordsStored s t a n fun k => (s.reg (Fin.ofNat 16 (r.val + k))).toNat) ∧
      MemoryBut s t (stackBytes a n) ∧ t.reg 15 = a ∧ RegsBut s t [15] ∧ t.psr = s.psr ∧ PcAfter s t 2 ∧
      StoreOnly s t (writes (stackBytes a n))) ∧
  (∀ (c : BitVec 2) (r : Reg), WordIs (0x6C00 + 32 * c.toNat + 2 * r.val) (.push c r))

/-- 44_jumps_linkage.md R205, R207 to R209; wrapping of SP is 92_eei_decisions.md D4 (notes/assumptions/7.md), the order of the compared accesses D12 (notes/assumptions/12.md). -/
def Obligations.PopCompletes : Prop :=
  ∀ (s : State) (c : BitVec 2) (r : Reg), r.val + c.toNat < 15 →
    let n := c.toNat + 1
    let Popped (t : State) : Prop :=
      (∀ k, k < n → s.storedWord ((s.reg 15 + BitVec.ofNat 16 (2 * k)).setWidth 21) →
        (t.reg (Fin.ofNat 16 (r.val + k))).toNat =
          s.wordAt ((s.reg 15 + BitVec.ofNat 16 (2 * k)).setWidth 21)) ∧
      t.reg 15 = s.reg 15 + BitVec.ofNat 16 (2 * n) ∧
      (∀ x : Reg, x ≠ 15 → x.val < r.val ∨ r.val + n ≤ x.val → t.reg x = s.reg x) ∧
      t.psr = s.psr ∧ ReadOnly s t (stackBytes (s.reg 15) n)
    Completes (exec (.pop c r) s) (fun t => Popped t ∧ PcAfter s t 2) ∧
    Completes (exec (.popretSmall c r) s) (fun t => Popped t ∧ t.pc.toNat = 2 * (t.reg 14).toNat) ∧
    Completes (exec (.popretLarge c r) s) (fun t => Popped t ∧
      t.pc.toNat = (t.reg 14).toNat % 16 * 2 ^ 17 + 2 * (t.reg 13).toNat)

/-- 93_implementation_defined.md U12, the total treatment (notes/assumptions/25.md). -/
def Obligations.StackRunReachingSp : Prop :=
  ∀ (s : State) (c : BitVec 2) (r : Reg), 15 ≤ r.val + c.toNat →
    let n := c.toNat + 1
    let low := s.reg 15 - BitVec.ofNat 16 (2 * n)
    let Kept (t : State) (a : Word) (as : List Access) : Prop :=
      (∀ x : Reg, x.val < r.val → t.reg x = s.reg x) ∧ t.psr = s.psr ∧
      MemoryBut s t (stackBytes a n) ∧ StoreOnly s t as
    let Popped (t : State) : Prop := Kept t (s.reg 15) (reads (stackBytes (s.reg 15) (min n (16 - r.val))))
    Completes (exec (.push c r) s) (fun t => Kept t low (writes (stackBytes low n)) ∧ PcAfter s t 2) ∧
    Completes (exec (.pop c r) s) (fun t => Popped t ∧ PcAfter s t 2) ∧
    Completes (exec (.popretSmall c r) s) Popped ∧ Completes (exec (.popretLarge c r) s) Popped

/-- 45_procreg_loadstore_misc.md R225 to R228, R230, R231. -/
def Obligations.LoadCompletes : Prop :=
  ∀ (s : State) (r base : Reg) (d5 : BitVec 5) (d18 : BitVec 18),
    LoadEffect 8 s r (s.eaDisp5 base d5) 2 (exec (.loadbDisp5 d5 base r) s) ∧
    LoadEffect 8 s r (s.eaDisp18 base d18) 4 (exec (.loadbDisp18 d18 base r) s) ∧
    LoadEffect 8 s r (s.eaFar base d18) 4 (exec (.loadbFar d18 base r) s) ∧
    LoadEffect 8 s r (eaAbs d18) 4 (exec (.loadbAbs d18 r) s) ∧
    LoadEffect 16 s r (s.eaDisp5 base d5) 2 (exec (.loadwDisp5 d5 base r) s) ∧
    LoadEffect 16 s r (s.eaDisp18 base d18) 4 (exec (.loadwDisp18 d18 base r) s) ∧
    LoadEffect 16 s r (s.eaFar base d18) 4 (exec (.loadwFar d18 base r) s) ∧
    LoadEffect 16 s r (eaAbs d18) 4 (exec (.loadwAbs d18 r) s)

/-- 45_procreg_loadstore_misc.md R225 to R228, R232, R233. -/
def Obligations.StoreCompletes : Prop :=
  ∀ (s : State) (r base : Reg) (d5 : BitVec 5) (d18 : BitVec 18),
    StoreByteEffect s (s.eaDisp5 base d5) (s.low 8 r) 2 (exec (.storbDisp5 r d5 base) s) ∧
    StoreByteEffect s (s.eaDisp18 base d18) (s.low 8 r) 4 (exec (.storbDisp18 r d18 base) s) ∧
    StoreByteEffect s (s.eaFar base d18) (s.low 8 r) 4 (exec (.storbFar r d18 base) s) ∧
    StoreByteEffect s (eaAbs d18) (s.low 8 r) 4 (exec (.storbAbs r d18) s) ∧
    StoreWordEffect s (s.eaDisp5 base d5) (s.low 16 r) 2 (exec (.storwDisp5 r d5 base) s) ∧
    StoreWordEffect s (s.eaDisp18 base d18) (s.low 16 r) 4 (exec (.storwDisp18 r d18 base) s) ∧
    StoreWordEffect s (s.eaFar base d18) (s.low 16 r) 4 (exec (.storwFar r d18 base) s) ∧
    StoreWordEffect s (eaAbs d18) (s.low 16 r) 4 (exec (.storwAbs r d18) s)

/-- 45_procreg_loadstore_misc.md R229, R234, R235; the extension is the parameter of 92_eei_decisions.md D10 (notes/assumptions/5.md). -/
def Obligations.StoreImmediateCompletes : Prop :=
  ∀ (s : State) (imm : BitVec 4) (q : Restricted) (disp : BitVec 16) (addr : BitVec 18),
    let v (w : Nat) : Nat := if s.platform.storImm4Signed then (imm.toInt % 2 ^ w).toNat else imm.toNat
    StoreByteEffect s (s.eaBase q) (v 8) 2 (exec (.storbImmBase imm q) s) ∧
    StoreByteEffect s (s.eaDisp16 q disp) (v 8) 4 (exec (.storbImmDisp16 imm disp q) s) ∧
    StoreByteEffect s (eaAbs addr) (v 8) 4 (exec (.storbImmAbs imm addr) s) ∧
    StoreWordEffect s (s.eaBase q) (v 16) 2 (exec (.storwImmBase imm q) s) ∧
    StoreWordEffect s (s.eaDisp16 q disp) (v 16) 4 (exec (.storwImmDisp16 imm disp q) s) ∧
    StoreWordEffect s (eaAbs addr) (v 16) 4 (exec (.storwImmAbs imm addr) s)

/-- 45_procreg_loadstore_misc.md R236 (the wrap at 64K against the reach of 20_memory.md R82: notes/assumptions/36.md); the order of the compared accesses is 92_eei_decisions.md D12 (notes/assumptions/12.md). -/
def Obligations.LoadMultipleCompletes : Prop :=
  (∀ (s : State) (c : BitVec 2),
    let n := c.toNat + 1
    Completes (exec (.loadm c) s) fun t =>
      (∀ k, k < n → s.storedWord ((s.reg 0 + BitVec.ofNat 16 (2 * k)).setWidth 21) →
        (t.reg (Fin.ofNat 16 (2 + k))).toNat = s.wordAt ((s.reg 0 + BitVec.ofNat 16 (2 * k)).setWidth 21)) ∧
      t.reg 0 = s.reg 0 + BitVec.ofNat 16 (2 * n) ∧
      (∀ x : Reg, x ≠ 0 → x.val < 2 ∨ 2 + n ≤ x.val → t.reg x = s.reg x) ∧
      t.psr = s.psr ∧ PcAfter s t 2 ∧ ReadOnly s t (stackBytes (s.reg 0) n)) ∧
  (∀ c : BitVec 2, WordIs (0x7E04 + 32 * c.toNat) (.loadm c))

/-- 45_procreg_loadstore_misc.md R237 (the wrap at 64K against the reach of 20_memory.md R82: notes/assumptions/36.md); the order of the compared accesses is 92_eei_decisions.md D12 (notes/assumptions/12.md). -/
def Obligations.StoreMultipleCompletes : Prop :=
  (∀ (s : State) (c : BitVec 2),
    let n := c.toNat + 1
    Completes (exec (.storm c) s) fun t =>
      (s.mem.wf = true → WordsStored s t (s.reg 1) n fun k => (s.reg (Fin.ofNat 16 (2 + k))).toNat) ∧
      MemoryBut s t (stackBytes (s.reg 1) n) ∧ t.reg 1 = s.reg 1 + BitVec.ofNat 16 (2 * n) ∧
      RegsBut s t [1] ∧ t.psr = s.psr ∧ PcAfter s t 2 ∧ StoreOnly s t (writes (stackBytes (s.reg 1) n))) ∧
  (∀ c : BitVec 2, WordIs (0x7E84 + 32 * c.toNat) (.storm c))

/-- 45_procreg_loadstore_misc.md R222, the whole table, with R220 and R221; the lock of DBGL is derived in 10_state.md R41 (notes/assumptions/29.md), the marks are 92_eei_decisions.md D6 (notes/assumptions/9.md). -/
def Obligations.LprCompletes : Prop :=
  ∀ (s : State) (r d : Reg),
    let v := s.reg r
    (LprEffect s r 1 0 fun t => ∀ k < 12, t.flag k = (v.getLsbD k && decide (k ∉ [3, 4, 8]))) ∧
    (LprEffect s r 3 1 fun t => t.intbase.toNat = s.intbase.toNat / 2 ^ 16 * 2 ^ 16 + v.toNat / 2 * 2) ∧
    (LprEffect s r 4 1 fun t => t.intbase.toNat = v.toNat % 32 * 2 ^ 16 + s.intbase.toNat % 2 ^ 16) ∧
    (LprEffect s r 5 2 fun t => t.cfgEd = v.getLsbD 8) ∧
    (LprEffect s r 7 3 fun t => ∀ k < 4, t.dsr.getLsbD k = v.getLsbD k) ∧
    (LprEffect s r 9 4 fun t =>
      (∀ k ∈ [0, 1, 4, 5, 6, 7, 8], t.dcr.getLsbD k = v.getLsbD k) ∧
      (∀ k ∈ [10, 11, 12, 13, 15],
        t.dcr.getLsbD k = if s.dcr.getLsbD 15 then s.dcr.getLsbD k else v.getLsbD k)) ∧
    (LprEffect s r 11 5 fun t => t.isp.toNat = v.toNat / 2 * 2) ∧
    (LprEffect s r 13 6 fun t => t.car.toNat = s.car.toNat / 2 ^ 16 * 2 ^ 16 + v.toNat) ∧
    (LprEffect s r 14 6 fun t => t.car.toNat = v.toNat % 32 * 2 ^ 16 + s.car.toNat % 2 ^ 16) ∧
    (SprEffect s 1 d fun x => ∀ k < 12, x.getLsbD k = (s.flag k && decide (k ∉ [3, 4, 8]))) ∧
    (SprEffect s 3 d fun x => x.toNat = s.intbase.toNat % 2 ^ 16) ∧
    (SprEffect s 4 d fun x => x.toNat = s.intbase.toNat / 2 ^ 16) ∧
    (SprEffect s 5 d fun x => x.getLsbD 8 = s.cfgEd) ∧
    (SprEffect s 7 d fun x => ∀ k < 4, x.getLsbD k = s.dsr.getLsbD k) ∧
    (SprEffect s 9 d fun x => ∀ k ∈ [0, 1, 4, 5, 6, 7, 8, 10, 11, 12, 13, 15], x.getLsbD k = s.dcr.getLsbD k) ∧
    (SprEffect s 11 d fun x => x.toNat = s.isp.toNat % 2 ^ 16) ∧
    (SprEffect s 13 d fun x => x.toNat = s.car.toNat % 2 ^ 16) ∧
    (SprEffect s 14 d fun x => x.toNat % 32 = s.car.toNat / 2 ^ 16)

/-- 93_implementation_defined.md U2, the total treatment (notes/assumptions/19.md). -/
def Obligations.UnassignedProcCodes : Prop :=
  ∀ (s : State) (r d : Reg) (c : BitVec 4), c ∈ [0, 2, 6, 8, 10, 12, 15] →
    (Completes (exec (.lpr r c) s) fun t =>
      specialsOf t = specialsOf s ∧ RegsBut s t [] ∧ PcAfter s t 2 ∧ OutsideKept s t ∧ t.stale = []) ∧
    SprEffect s c d fun _ => True

/-- 45_procreg_loadstore_misc.md R238 to R242. -/
def Obligations.StatusInstructionsComplete : Prop :=
  (∀ s : State,
    (Completes (exec .nop s) fun t => t.psr = s.psr ∧ RegsBut s t [] ∧ PcAfter s t 2 ∧ RegisterOnly s t) ∧
    (Completes (exec .di s) fun t => t.flag psrE = false ∧ FlagsBut s t [psrE] ∧ RegsBut s t [] ∧
      PcAfter s t 2 ∧ RegisterOnly s t ∧ ∀ q, t.acceptedInterrupt q ≠ some .int) ∧
    (Completes (exec .ei s) fun t => t.flag psrE = true ∧ FlagsBut s t [psrE] ∧ RegsBut s t [] ∧
      PcAfter s t 2 ∧ RegisterOnly s t ∧
      ∀ q, q.nmi = false → q.int = true → (t.acceptedInterrupt q = some .int ↔ s.flag psrI = true)) ∧
    (Completes (exec .wait s) fun t => t.psr = s.psr ∧ RegsBut s t [] ∧ PcAfter s t 2 ∧
      t.opState = .waiting ∧ SpecialsKept s t ∧ DebugKept s t ∧ MemoryBut s t []) ∧
    (Completes (exec .eiwait s) fun t => t.flag psrE = true ∧ FlagsBut s t [psrE] ∧ RegsBut s t [] ∧
      PcAfter s t 2 ∧ t.opState = .waiting ∧ SpecialsKept s t ∧ DebugKept s t ∧ MemoryBut s t [] ∧
      ∀ q, q.nmi = false → q.int = true → (t.acceptedInterrupt q = some .int ↔ s.flag psrI = true))) ∧
  WordIs 0x0200 .nop ∧ WordIs 0x7DDE .di ∧ WordIs 0x7DFE .ei ∧ WordIs 0x7FFE .wait ∧ WordIs 0x7FE6 .eiwait

/-- 44_jumps_linkage.md R203 with the entry of 60_exceptions.md R262 to R265; its wraps are 92_eei_decisions.md D2, D4 (notes/assumptions/7.md), the packing of the frame is derived (notes/assumptions/30.md). -/
def Obligations.ExcpCompletes : Prop :=
  (∀ (s : State) (v : BitVec 4),
    let x : Exception := if v = 5 then .svc else if v = 6 then .dvz else if v = 7 then .flg
      else if v = 8 then .bpt else .und
    Completes (exec (.excp v) s) (Entered s x s.pc)) ∧
  (∀ v : BitVec 4, WordIs (0x7BE0 + 2 * v.toNat) (.excp v))

/-- 60_exceptions.md R262 to R265, R273, R281, R285. For INT the ICU's byte is used whatever it is, the total treatment of 93_implementation_defined.md U8 (notes/assumptions/21.md); the packing of the frame is derived (notes/assumptions/30.md), its wrap is 92_eei_decisions.md D2, D4 (notes/assumptions/7.md). -/
def Obligations.ExceptionEntry : Prop :=
  ∀ (s : State) (x : Exception) (spc : Addr), Entered s x spc (s.takeException x spc)

/-- 44_jumps_linkage.md R204, 10_state.md R36; the wrap of ISP is 92_eei_decisions.md D4 (notes/assumptions/7.md), the cleared marks D6 (notes/assumptions/9.md), the order of the reads D12 (notes/assumptions/12.md). -/
def Obligations.RetxCompletes : Prop :=
  (∀ s : State, Completes (exec .retx s) fun t =>
    let lo := stackAddr s.isp 0
    let hi := stackAddr s.isp 2
    (s.storedWord lo → s.storedWord hi →
      t.pc.toNat = s.wordAt hi / 4096 * 2 ^ 17 + s.wordAt lo * 2 ∧
      (∀ k < 12, t.flag k = ((s.wordAt hi).testBit k && decide (k ∉ [3, 4, 8])))) ∧
    (∀ k, 12 ≤ k → t.flag k = s.flag k) ∧
    t.isp = stackAddr s.isp 4 ∧ RegsBut s t [] ∧ MemoryBut s t [] ∧ t.intbase = s.intbase ∧ t.cfg = s.cfg ∧
    t.car = s.car ∧ t.platform = s.platform ∧
    DebugOfAccess s t (reads (wordBytes lo ++ wordBytes hi)) ∧ t.opState = s.opState ∧ t.stale = []) ∧
  WordIs 0x79FE .retx

/-- 60_exceptions.md R281; that the record is made at the moment of detection is 92_eei_decisions.md D15 (notes/assumptions/16.md), the meaning of the CBE bits is derived in 10_state.md R41 (notes/assumptions/30.md), the order of several accesses is D12. -/
def Obligations.CompareAddressMatch : Prop :=
  ∀ (s : State) (a : Addr),
    let hit (en : Nat) : Prop := s.dcr.getLsbD dcrDen = true ∧ s.dcr.getLsbD dcrPc = false ∧
      s.dcr.getLsbD en = true ∧ a.toNat / 2 = s.car.toNat / 2 ∧ s.dcr.getLsbD (a.toNat % 2) = true
    let Matched (t : State) (st : Nat) : Prop := t.dbgPending = true ∧
      (∀ k, t.dsr.getLsbD k = (s.dsr.getLsbD k || decide (k = st))) ∧
      (∀ k, t.dcr.getLsbD k = (s.dcr.getLsbD k && decide (k ≠ dcrDen)))
    (hit dcrCrd → Matched (s.readByte a).2 dsrBrd) ∧ (¬ hit dcrCrd → DebugKept s (s.readByte a).2) ∧
    (∀ v, (hit dcrCwr → Matched (s.writeByte a v) dsrBwr) ∧ (¬ hit dcrCwr → DebugKept s (s.writeByte a v))) ∧
    (s.readWord a).2 = ((s.readByte a).2.readByte (a + 1)).2 ∧
    (∀ v : Word, s.writeWord a v =
      (s.writeByte a (BitVec.ofNat 8 v.toNat)).writeByte (a + 1) (BitVec.ofNat 8 (v.toNat / 256))) ∧
    DebugKept s s.fetch.2 ∧
    (∀ spc, DebugOfAccess s (s.pushFrame spc) (writes (frameBytes s))) ∧
    (∀ x, DebugOfAccess s (s.acknowledge x) (reads (acknowledgeBytes s x))) ∧
    (∀ x, DebugOfAccess s (s.readHandler x).2 (reads (dispatchBytes s x)))

/-- 60_exceptions.md R262 step 5 and R283; read literally, also where DBG was pending for another cause (notes/assumptions/27.md). -/
def Obligations.TaggedInstruction : Prop :=
  ∀ (s : State) (x : Exception) (spc : Addr),
    let t := s.takeException x spc
    let tagged : Prop := x = .dbg ∧ s.dcr.getLsbD dcrEfb = true ∧ s.pins.tag = true
    (tagged → t.dsr.getLsbD dsrExf = true ∧ t.dcr.getLsbD dcrEfb = false) ∧
    (¬ tagged → t.dsr.getLsbD dsrExf = s.dsr.getLsbD dsrExf ∧ t.dcr.getLsbD dcrEfb = s.dcr.getLsbD dcrEfb)
end

