-- ==== Sys2Proof/Laws/State.lean ====
section
/-! SUPPORT. One lemma per field per update of State, each true by rfl, so that no proof unfolds a record
update; and what a register, a flag and the kind of an address read as after one. -/

namespace Sys2Proof.Machine

/-! ### setReg -/

@[simp] theorem State.setReg_regs (s : State) (r : Reg) (v : Word) : (s.setReg r v).regs = s.regs.set r v := rfl
@[simp] theorem State.setReg_pc (s : State) (r : Reg) (v : Word) : (s.setReg r v).pc = s.pc := rfl
@[simp] theorem State.setReg_psr (s : State) (r : Reg) (v : Word) : (s.setReg r v).psr = s.psr := rfl
@[simp] theorem State.setReg_isp (s : State) (r : Reg) (v : Word) : (s.setReg r v).isp = s.isp := rfl
@[simp] theorem State.setReg_intbase (s : State) (r : Reg) (v : Word) : (s.setReg r v).intbase = s.intbase := rfl
@[simp] theorem State.setReg_cfg (s : State) (r : Reg) (v : Word) : (s.setReg r v).cfg = s.cfg := rfl
@[simp] theorem State.setReg_dcr (s : State) (r : Reg) (v : Word) : (s.setReg r v).dcr = s.dcr := rfl
@[simp] theorem State.setReg_dsr (s : State) (r : Reg) (v : Word) : (s.setReg r v).dsr = s.dsr := rfl
@[simp] theorem State.setReg_car (s : State) (r : Reg) (v : Word) : (s.setReg r v).car = s.car := rfl
@[simp] theorem State.setReg_dbgPending (s : State) (r : Reg) (v : Word) : (s.setReg r v).dbgPending = s.dbgPending := rfl
@[simp] theorem State.setReg_opState (s : State) (r : Reg) (v : Word) : (s.setReg r v).opState = s.opState := rfl
@[simp] theorem State.setReg_mem (s : State) (r : Reg) (v : Word) : (s.setReg r v).mem = s.mem := rfl
@[simp] theorem State.setReg_stale (s : State) (r : Reg) (v : Word) : (s.setReg r v).stale = s.stale := rfl
@[simp] theorem State.setReg_pins (s : State) (r : Reg) (v : Word) : (s.setReg r v).pins = s.pins := rfl
@[simp] theorem State.setReg_pinsAhead (s : State) (r : Reg) (v : Word) : (s.setReg r v).pinsAhead = s.pinsAhead := rfl
@[simp] theorem State.setReg_platform (s : State) (r : Reg) (v : Word) : (s.setReg r v).platform = s.platform := rfl
@[simp] theorem State.setReg_written (s : State) (r : Reg) (v : Word) : (s.setReg r v).written = s.written := rfl
@[simp] theorem State.setReg_fresh (s : State) (r : Reg) (v : Word) : (s.setReg r v).fresh = s.fresh := rfl
@[simp] theorem State.setReg_flag (s : State) (r : Reg) (v : Word) (j : Nat) : (s.setReg r v).flag j = s.flag j := rfl
@[simp] theorem State.setReg_cfgEd (s : State) (r : Reg) (v : Word) : (s.setReg r v).cfgEd = s.cfgEd := rfl
@[simp] theorem State.setReg_kindAt (s : State) (r : Reg) (v : Word) (x : Addr) : (s.setReg r v).kindAt x = s.kindAt x := rfl

/-! ### setRegByte -/

@[simp] theorem State.setRegByte_pc (s : State) (r : Reg) (v : Byte) : (s.setRegByte r v).pc = s.pc := rfl
@[simp] theorem State.setRegByte_psr (s : State) (r : Reg) (v : Byte) : (s.setRegByte r v).psr = s.psr := rfl
@[simp] theorem State.setRegByte_isp (s : State) (r : Reg) (v : Byte) : (s.setRegByte r v).isp = s.isp := rfl
@[simp] theorem State.setRegByte_intbase (s : State) (r : Reg) (v : Byte) : (s.setRegByte r v).intbase = s.intbase := rfl
@[simp] theorem State.setRegByte_cfg (s : State) (r : Reg) (v : Byte) : (s.setRegByte r v).cfg = s.cfg := rfl
@[simp] theorem State.setRegByte_dcr (s : State) (r : Reg) (v : Byte) : (s.setRegByte r v).dcr = s.dcr := rfl
@[simp] theorem State.setRegByte_dsr (s : State) (r : Reg) (v : Byte) : (s.setRegByte r v).dsr = s.dsr := rfl
@[simp] theorem State.setRegByte_car (s : State) (r : Reg) (v : Byte) : (s.setRegByte r v).car = s.car := rfl
@[simp] theorem State.setRegByte_dbgPending (s : State) (r : Reg) (v : Byte) : (s.setRegByte r v).dbgPending = s.dbgPending := rfl
@[simp] theorem State.setRegByte_opState (s : State) (r : Reg) (v : Byte) : (s.setRegByte r v).opState = s.opState := rfl
@[simp] theorem State.setRegByte_mem (s : State) (r : Reg) (v : Byte) : (s.setRegByte r v).mem = s.mem := rfl
@[simp] theorem State.setRegByte_stale (s : State) (r : Reg) (v : Byte) : (s.setRegByte r v).stale = s.stale := rfl
@[simp] theorem State.setRegByte_pins (s : State) (r : Reg) (v : Byte) : (s.setRegByte r v).pins = s.pins := rfl
@[simp] theorem State.setRegByte_pinsAhead (s : State) (r : Reg) (v : Byte) : (s.setRegByte r v).pinsAhead = s.pinsAhead := rfl
@[simp] theorem State.setRegByte_platform (s : State) (r : Reg) (v : Byte) : (s.setRegByte r v).platform = s.platform := rfl
@[simp] theorem State.setRegByte_written (s : State) (r : Reg) (v : Byte) : (s.setRegByte r v).written = s.written := rfl
@[simp] theorem State.setRegByte_fresh (s : State) (r : Reg) (v : Byte) : (s.setRegByte r v).fresh = s.fresh := rfl
@[simp] theorem State.setRegByte_flag (s : State) (r : Reg) (v : Byte) (j : Nat) : (s.setRegByte r v).flag j = s.flag j := rfl
@[simp] theorem State.setRegByte_cfgEd (s : State) (r : Reg) (v : Byte) : (s.setRegByte r v).cfgEd = s.cfgEd := rfl
@[simp] theorem State.setRegByte_kindAt (s : State) (r : Reg) (v : Byte) (x : Addr) : (s.setRegByte r v).kindAt x = s.kindAt x := rfl

/-! ### setPc -/

@[simp] theorem State.setPc_regs (s : State) (a : Addr) : (s.setPc a).regs = s.regs := rfl
@[simp] theorem State.setPc_pc (s : State) (a : Addr) : (s.setPc a).pc = evenAddr a := rfl
@[simp] theorem State.setPc_psr (s : State) (a : Addr) : (s.setPc a).psr = s.psr := rfl
@[simp] theorem State.setPc_isp (s : State) (a : Addr) : (s.setPc a).isp = s.isp := rfl
@[simp] theorem State.setPc_intbase (s : State) (a : Addr) : (s.setPc a).intbase = s.intbase := rfl
@[simp] theorem State.setPc_cfg (s : State) (a : Addr) : (s.setPc a).cfg = s.cfg := rfl
@[simp] theorem State.setPc_dcr (s : State) (a : Addr) : (s.setPc a).dcr = s.dcr := rfl
@[simp] theorem State.setPc_dsr (s : State) (a : Addr) : (s.setPc a).dsr = s.dsr := rfl
@[simp] theorem State.setPc_car (s : State) (a : Addr) : (s.setPc a).car = s.car := rfl
@[simp] theorem State.setPc_dbgPending (s : State) (a : Addr) : (s.setPc a).dbgPending = s.dbgPending := rfl
@[simp] theorem State.setPc_opState (s : State) (a : Addr) : (s.setPc a).opState = s.opState := rfl
@[simp] theorem State.setPc_mem (s : State) (a : Addr) : (s.setPc a).mem = s.mem := rfl
@[simp] theorem State.setPc_stale (s : State) (a : Addr) : (s.setPc a).stale = s.stale := rfl
@[simp] theorem State.setPc_pins (s : State) (a : Addr) : (s.setPc a).pins = s.pins := rfl
@[simp] theorem State.setPc_pinsAhead (s : State) (a : Addr) : (s.setPc a).pinsAhead = s.pinsAhead := rfl
@[simp] theorem State.setPc_platform (s : State) (a : Addr) : (s.setPc a).platform = s.platform := rfl
@[simp] theorem State.setPc_written (s : State) (a : Addr) : (s.setPc a).written = s.written := rfl
@[simp] theorem State.setPc_fresh (s : State) (a : Addr) : (s.setPc a).fresh = s.fresh := rfl
@[simp] theorem State.setPc_reg (s : State) (a : Addr) (x : Reg) : (s.setPc a).reg x = s.reg x := rfl
@[simp] theorem State.setPc_flag (s : State) (a : Addr) (j : Nat) : (s.setPc a).flag j = s.flag j := rfl
@[simp] theorem State.setPc_cfgEd (s : State) (a : Addr) : (s.setPc a).cfgEd = s.cfgEd := rfl
@[simp] theorem State.setPc_kindAt (s : State) (a : Addr) (x : Addr) : (s.setPc a).kindAt x = s.kindAt x := rfl

/-! ### advance -/

@[simp] theorem State.advance_regs (s : State) (len : Addr) : (s.advance len).regs = s.regs := rfl
@[simp] theorem State.advance_pc (s : State) (len : Addr) : (s.advance len).pc = evenAddr (s.pc + len) := rfl
@[simp] theorem State.advance_psr (s : State) (len : Addr) : (s.advance len).psr = s.psr := rfl
@[simp] theorem State.advance_isp (s : State) (len : Addr) : (s.advance len).isp = s.isp := rfl
@[simp] theorem State.advance_intbase (s : State) (len : Addr) : (s.advance len).intbase = s.intbase := rfl
@[simp] theorem State.advance_cfg (s : State) (len : Addr) : (s.advance len).cfg = s.cfg := rfl
@[simp] theorem State.advance_dcr (s : State) (len : Addr) : (s.advance len).dcr = s.dcr := rfl
@[simp] theorem State.advance_dsr (s : State) (len : Addr) : (s.advance len).dsr = s.dsr := rfl
@[simp] theorem State.advance_car (s : State) (len : Addr) : (s.advance len).car = s.car := rfl
@[simp] theorem State.advance_dbgPending (s : State) (len : Addr) : (s.advance len).dbgPending = s.dbgPending := rfl
@[simp] theorem State.advance_opState (s : State) (len : Addr) : (s.advance len).opState = s.opState := rfl
@[simp] theorem State.advance_mem (s : State) (len : Addr) : (s.advance len).mem = s.mem := rfl
@[simp] theorem State.advance_stale (s : State) (len : Addr) : (s.advance len).stale = s.stale := rfl
@[simp] theorem State.advance_pins (s : State) (len : Addr) : (s.advance len).pins = s.pins := rfl
@[simp] theorem State.advance_pinsAhead (s : State) (len : Addr) : (s.advance len).pinsAhead = s.pinsAhead := rfl
@[simp] theorem State.advance_platform (s : State) (len : Addr) : (s.advance len).platform = s.platform := rfl
@[simp] theorem State.advance_written (s : State) (len : Addr) : (s.advance len).written = s.written := rfl
@[simp] theorem State.advance_fresh (s : State) (len : Addr) : (s.advance len).fresh = s.fresh := rfl
@[simp] theorem State.advance_reg (s : State) (len : Addr) (x : Reg) : (s.advance len).reg x = s.reg x := rfl
@[simp] theorem State.advance_flag (s : State) (len : Addr) (j : Nat) : (s.advance len).flag j = s.flag j := rfl
@[simp] theorem State.advance_cfgEd (s : State) (len : Addr) : (s.advance len).cfgEd = s.cfgEd := rfl
@[simp] theorem State.advance_kindAt (s : State) (len : Addr) (x : Addr) : (s.advance len).kindAt x = s.kindAt x := rfl

/-! ### setPsr -/

@[simp] theorem State.setPsr_regs (s : State) (v : Word) : (s.setPsr v).regs = s.regs := rfl
@[simp] theorem State.setPsr_pc (s : State) (v : Word) : (s.setPsr v).pc = s.pc := rfl
@[simp] theorem State.setPsr_psr (s : State) (v : Word) : (s.setPsr v).psr = v := rfl
@[simp] theorem State.setPsr_isp (s : State) (v : Word) : (s.setPsr v).isp = s.isp := rfl
@[simp] theorem State.setPsr_intbase (s : State) (v : Word) : (s.setPsr v).intbase = s.intbase := rfl
@[simp] theorem State.setPsr_cfg (s : State) (v : Word) : (s.setPsr v).cfg = s.cfg := rfl
@[simp] theorem State.setPsr_dcr (s : State) (v : Word) : (s.setPsr v).dcr = s.dcr := rfl
@[simp] theorem State.setPsr_dsr (s : State) (v : Word) : (s.setPsr v).dsr = s.dsr := rfl
@[simp] theorem State.setPsr_car (s : State) (v : Word) : (s.setPsr v).car = s.car := rfl
@[simp] theorem State.setPsr_dbgPending (s : State) (v : Word) : (s.setPsr v).dbgPending = s.dbgPending := rfl
@[simp] theorem State.setPsr_opState (s : State) (v : Word) : (s.setPsr v).opState = s.opState := rfl
@[simp] theorem State.setPsr_mem (s : State) (v : Word) : (s.setPsr v).mem = s.mem := rfl
@[simp] theorem State.setPsr_stale (s : State) (v : Word) : (s.setPsr v).stale = s.stale := rfl
@[simp] theorem State.setPsr_pins (s : State) (v : Word) : (s.setPsr v).pins = s.pins := rfl
@[simp] theorem State.setPsr_pinsAhead (s : State) (v : Word) : (s.setPsr v).pinsAhead = s.pinsAhead := rfl
@[simp] theorem State.setPsr_platform (s : State) (v : Word) : (s.setPsr v).platform = s.platform := rfl
@[simp] theorem State.setPsr_written (s : State) (v : Word) : (s.setPsr v).written = s.written := rfl
@[simp] theorem State.setPsr_fresh (s : State) (v : Word) : (s.setPsr v).fresh = s.fresh := rfl
@[simp] theorem State.setPsr_reg (s : State) (v : Word) (x : Reg) : (s.setPsr v).reg x = s.reg x := rfl
@[simp] theorem State.setPsr_cfgEd (s : State) (v : Word) : (s.setPsr v).cfgEd = s.cfgEd := rfl
@[simp] theorem State.setPsr_kindAt (s : State) (v : Word) (x : Addr) : (s.setPsr v).kindAt x = s.kindAt x := rfl

/-! ### setFlag -/

@[simp] theorem State.setFlag_regs (s : State) (k : Nat) (b : Bool) : (s.setFlag k b).regs = s.regs := rfl
@[simp] theorem State.setFlag_pc (s : State) (k : Nat) (b : Bool) : (s.setFlag k b).pc = s.pc := rfl
@[simp] theorem State.setFlag_psr (s : State) (k : Nat) (b : Bool) : (s.setFlag k b).psr = withBit s.psr k b := rfl
@[simp] theorem State.setFlag_isp (s : State) (k : Nat) (b : Bool) : (s.setFlag k b).isp = s.isp := rfl
@[simp] theorem State.setFlag_intbase (s : State) (k : Nat) (b : Bool) : (s.setFlag k b).intbase = s.intbase := rfl
@[simp] theorem State.setFlag_cfg (s : State) (k : Nat) (b : Bool) : (s.setFlag k b).cfg = s.cfg := rfl
@[simp] theorem State.setFlag_dcr (s : State) (k : Nat) (b : Bool) : (s.setFlag k b).dcr = s.dcr := rfl
@[simp] theorem State.setFlag_dsr (s : State) (k : Nat) (b : Bool) : (s.setFlag k b).dsr = s.dsr := rfl
@[simp] theorem State.setFlag_car (s : State) (k : Nat) (b : Bool) : (s.setFlag k b).car = s.car := rfl
@[simp] theorem State.setFlag_dbgPending (s : State) (k : Nat) (b : Bool) : (s.setFlag k b).dbgPending = s.dbgPending := rfl
@[simp] theorem State.setFlag_opState (s : State) (k : Nat) (b : Bool) : (s.setFlag k b).opState = s.opState := rfl
@[simp] theorem State.setFlag_mem (s : State) (k : Nat) (b : Bool) : (s.setFlag k b).mem = s.mem := rfl
@[simp] theorem State.setFlag_stale (s : State) (k : Nat) (b : Bool) : (s.setFlag k b).stale = s.stale := rfl
@[simp] theorem State.setFlag_pins (s : State) (k : Nat) (b : Bool) : (s.setFlag k b).pins = s.pins := rfl
@[simp] theorem State.setFlag_pinsAhead (s : State) (k : Nat) (b : Bool) : (s.setFlag k b).pinsAhead = s.pinsAhead := rfl
@[simp] theorem State.setFlag_platform (s : State) (k : Nat) (b : Bool) : (s.setFlag k b).platform = s.platform := rfl
@[simp] theorem State.setFlag_written (s : State) (k : Nat) (b : Bool) : (s.setFlag k b).written = s.written := rfl
@[simp] theorem State.setFlag_fresh (s : State) (k : Nat) (b : Bool) : (s.setFlag k b).fresh = s.fresh := rfl
@[simp] theorem State.setFlag_reg (s : State) (k : Nat) (b : Bool) (x : Reg) : (s.setFlag k b).reg x = s.reg x := rfl
@[simp] theorem State.setFlag_cfgEd (s : State) (k : Nat) (b : Bool) : (s.setFlag k b).cfgEd = s.cfgEd := rfl
@[simp] theorem State.setFlag_kindAt (s : State) (k : Nat) (b : Bool) (x : Addr) : (s.setFlag k b).kindAt x = s.kindAt x := rfl

/-! ### setIsp -/

@[simp] theorem State.setIsp_regs (s : State) (a : Addr) : (s.setIsp a).regs = s.regs := rfl
@[simp] theorem State.setIsp_pc (s : State) (a : Addr) : (s.setIsp a).pc = s.pc := rfl
@[simp] theorem State.setIsp_psr (s : State) (a : Addr) : (s.setIsp a).psr = s.psr := rfl
@[simp] theorem State.setIsp_isp (s : State) (a : Addr) : (s.setIsp a).isp = a := rfl
@[simp] theorem State.setIsp_intbase (s : State) (a : Addr) : (s.setIsp a).intbase = s.intbase := rfl
@[simp] theorem State.setIsp_cfg (s : State) (a : Addr) : (s.setIsp a).cfg = s.cfg := rfl
@[simp] theorem State.setIsp_dcr (s : State) (a : Addr) : (s.setIsp a).dcr = s.dcr := rfl
@[simp] theorem State.setIsp_dsr (s : State) (a : Addr) : (s.setIsp a).dsr = s.dsr := rfl
@[simp] theorem State.setIsp_car (s : State) (a : Addr) : (s.setIsp a).car = s.car := rfl
@[simp] theorem State.setIsp_dbgPending (s : State) (a : Addr) : (s.setIsp a).dbgPending = s.dbgPending := rfl
@[simp] theorem State.setIsp_opState (s : State) (a : Addr) : (s.setIsp a).opState = s.opState := rfl
@[simp] theorem State.setIsp_mem (s : State) (a : Addr) : (s.setIsp a).mem = s.mem := rfl
@[simp] theorem State.setIsp_stale (s : State) (a : Addr) : (s.setIsp a).stale = s.stale := rfl
@[simp] theorem State.setIsp_pins (s : State) (a : Addr) : (s.setIsp a).pins = s.pins := rfl
@[simp] theorem State.setIsp_pinsAhead (s : State) (a : Addr) : (s.setIsp a).pinsAhead = s.pinsAhead := rfl
@[simp] theorem State.setIsp_platform (s : State) (a : Addr) : (s.setIsp a).platform = s.platform := rfl
@[simp] theorem State.setIsp_written (s : State) (a : Addr) : (s.setIsp a).written = s.written := rfl
@[simp] theorem State.setIsp_fresh (s : State) (a : Addr) : (s.setIsp a).fresh = s.fresh := rfl
@[simp] theorem State.setIsp_reg (s : State) (a : Addr) (x : Reg) : (s.setIsp a).reg x = s.reg x := rfl
@[simp] theorem State.setIsp_flag (s : State) (a : Addr) (j : Nat) : (s.setIsp a).flag j = s.flag j := rfl
@[simp] theorem State.setIsp_cfgEd (s : State) (a : Addr) : (s.setIsp a).cfgEd = s.cfgEd := rfl
@[simp] theorem State.setIsp_kindAt (s : State) (a : Addr) (x : Addr) : (s.setIsp a).kindAt x = s.kindAt x := rfl

/-! ### setIntbase -/

@[simp] theorem State.setIntbase_regs (s : State) (a : Addr) : (s.setIntbase a).regs = s.regs := rfl
@[simp] theorem State.setIntbase_pc (s : State) (a : Addr) : (s.setIntbase a).pc = s.pc := rfl
@[simp] theorem State.setIntbase_psr (s : State) (a : Addr) : (s.setIntbase a).psr = s.psr := rfl
@[simp] theorem State.setIntbase_isp (s : State) (a : Addr) : (s.setIntbase a).isp = s.isp := rfl
@[simp] theorem State.setIntbase_intbase (s : State) (a : Addr) : (s.setIntbase a).intbase = a := rfl
@[simp] theorem State.setIntbase_cfg (s : State) (a : Addr) : (s.setIntbase a).cfg = s.cfg := rfl
@[simp] theorem State.setIntbase_dcr (s : State) (a : Addr) : (s.setIntbase a).dcr = s.dcr := rfl
@[simp] theorem State.setIntbase_dsr (s : State) (a : Addr) : (s.setIntbase a).dsr = s.dsr := rfl
@[simp] theorem State.setIntbase_car (s : State) (a : Addr) : (s.setIntbase a).car = s.car := rfl
@[simp] theorem State.setIntbase_dbgPending (s : State) (a : Addr) : (s.setIntbase a).dbgPending = s.dbgPending := rfl
@[simp] theorem State.setIntbase_opState (s : State) (a : Addr) : (s.setIntbase a).opState = s.opState := rfl
@[simp] theorem State.setIntbase_mem (s : State) (a : Addr) : (s.setIntbase a).mem = s.mem := rfl
@[simp] theorem State.setIntbase_stale (s : State) (a : Addr) : (s.setIntbase a).stale = s.stale := rfl
@[simp] theorem State.setIntbase_pins (s : State) (a : Addr) : (s.setIntbase a).pins = s.pins := rfl
@[simp] theorem State.setIntbase_pinsAhead (s : State) (a : Addr) : (s.setIntbase a).pinsAhead = s.pinsAhead := rfl
@[simp] theorem State.setIntbase_platform (s : State) (a : Addr) : (s.setIntbase a).platform = s.platform := rfl
@[simp] theorem State.setIntbase_written (s : State) (a : Addr) : (s.setIntbase a).written = s.written := rfl
@[simp] theorem State.setIntbase_fresh (s : State) (a : Addr) : (s.setIntbase a).fresh = s.fresh := rfl
@[simp] theorem State.setIntbase_reg (s : State) (a : Addr) (x : Reg) : (s.setIntbase a).reg x = s.reg x := rfl
@[simp] theorem State.setIntbase_flag (s : State) (a : Addr) (j : Nat) : (s.setIntbase a).flag j = s.flag j := rfl
@[simp] theorem State.setIntbase_cfgEd (s : State) (a : Addr) : (s.setIntbase a).cfgEd = s.cfgEd := rfl
@[simp] theorem State.setIntbase_kindAt (s : State) (a : Addr) (x : Addr) : (s.setIntbase a).kindAt x = s.kindAt x := rfl

/-! ### setCfg -/

@[simp] theorem State.setCfg_regs (s : State) (v : Word) : (s.setCfg v).regs = s.regs := rfl
@[simp] theorem State.setCfg_pc (s : State) (v : Word) : (s.setCfg v).pc = s.pc := rfl
@[simp] theorem State.setCfg_psr (s : State) (v : Word) : (s.setCfg v).psr = s.psr := rfl
@[simp] theorem State.setCfg_isp (s : State) (v : Word) : (s.setCfg v).isp = s.isp := rfl
@[simp] theorem State.setCfg_intbase (s : State) (v : Word) : (s.setCfg v).intbase = s.intbase := rfl
@[simp] theorem State.setCfg_cfg (s : State) (v : Word) : (s.setCfg v).cfg = v := rfl
@[simp] theorem State.setCfg_dcr (s : State) (v : Word) : (s.setCfg v).dcr = s.dcr := rfl
@[simp] theorem State.setCfg_dsr (s : State) (v : Word) : (s.setCfg v).dsr = s.dsr := rfl
@[simp] theorem State.setCfg_car (s : State) (v : Word) : (s.setCfg v).car = s.car := rfl
@[simp] theorem State.setCfg_dbgPending (s : State) (v : Word) : (s.setCfg v).dbgPending = s.dbgPending := rfl
@[simp] theorem State.setCfg_opState (s : State) (v : Word) : (s.setCfg v).opState = s.opState := rfl
@[simp] theorem State.setCfg_mem (s : State) (v : Word) : (s.setCfg v).mem = s.mem := rfl
@[simp] theorem State.setCfg_stale (s : State) (v : Word) : (s.setCfg v).stale = s.stale := rfl
@[simp] theorem State.setCfg_pins (s : State) (v : Word) : (s.setCfg v).pins = s.pins := rfl
@[simp] theorem State.setCfg_pinsAhead (s : State) (v : Word) : (s.setCfg v).pinsAhead = s.pinsAhead := rfl
@[simp] theorem State.setCfg_platform (s : State) (v : Word) : (s.setCfg v).platform = s.platform := rfl
@[simp] theorem State.setCfg_written (s : State) (v : Word) : (s.setCfg v).written = s.written := rfl
@[simp] theorem State.setCfg_fresh (s : State) (v : Word) : (s.setCfg v).fresh = s.fresh := rfl
@[simp] theorem State.setCfg_reg (s : State) (v : Word) (x : Reg) : (s.setCfg v).reg x = s.reg x := rfl
@[simp] theorem State.setCfg_flag (s : State) (v : Word) (j : Nat) : (s.setCfg v).flag j = s.flag j := rfl
@[simp] theorem State.setCfg_kindAt (s : State) (v : Word) (x : Addr) : (s.setCfg v).kindAt x = s.kindAt x := rfl

/-! ### setDcr -/

@[simp] theorem State.setDcr_regs (s : State) (v : Word) : (s.setDcr v).regs = s.regs := rfl
@[simp] theorem State.setDcr_pc (s : State) (v : Word) : (s.setDcr v).pc = s.pc := rfl
@[simp] theorem State.setDcr_psr (s : State) (v : Word) : (s.setDcr v).psr = s.psr := rfl
@[simp] theorem State.setDcr_isp (s : State) (v : Word) : (s.setDcr v).isp = s.isp := rfl
@[simp] theorem State.setDcr_intbase (s : State) (v : Word) : (s.setDcr v).intbase = s.intbase := rfl
@[simp] theorem State.setDcr_cfg (s : State) (v : Word) : (s.setDcr v).cfg = s.cfg := rfl
@[simp] theorem State.setDcr_dcr (s : State) (v : Word) : (s.setDcr v).dcr = v := rfl
@[simp] theorem State.setDcr_dsr (s : State) (v : Word) : (s.setDcr v).dsr = s.dsr := rfl
@[simp] theorem State.setDcr_car (s : State) (v : Word) : (s.setDcr v).car = s.car := rfl
@[simp] theorem State.setDcr_dbgPending (s : State) (v : Word) : (s.setDcr v).dbgPending = s.dbgPending := rfl
@[simp] theorem State.setDcr_opState (s : State) (v : Word) : (s.setDcr v).opState = s.opState := rfl
@[simp] theorem State.setDcr_mem (s : State) (v : Word) : (s.setDcr v).mem = s.mem := rfl
@[simp] theorem State.setDcr_stale (s : State) (v : Word) : (s.setDcr v).stale = s.stale := rfl
@[simp] theorem State.setDcr_pins (s : State) (v : Word) : (s.setDcr v).pins = s.pins := rfl
@[simp] theorem State.setDcr_pinsAhead (s : State) (v : Word) : (s.setDcr v).pinsAhead = s.pinsAhead := rfl
@[simp] theorem State.setDcr_platform (s : State) (v : Word) : (s.setDcr v).platform = s.platform := rfl
@[simp] theorem State.setDcr_written (s : State) (v : Word) : (s.setDcr v).written = s.written := rfl
@[simp] theorem State.setDcr_fresh (s : State) (v : Word) : (s.setDcr v).fresh = s.fresh := rfl
@[simp] theorem State.setDcr_reg (s : State) (v : Word) (x : Reg) : (s.setDcr v).reg x = s.reg x := rfl
@[simp] theorem State.setDcr_flag (s : State) (v : Word) (j : Nat) : (s.setDcr v).flag j = s.flag j := rfl
@[simp] theorem State.setDcr_cfgEd (s : State) (v : Word) : (s.setDcr v).cfgEd = s.cfgEd := rfl
@[simp] theorem State.setDcr_kindAt (s : State) (v : Word) (x : Addr) : (s.setDcr v).kindAt x = s.kindAt x := rfl

/-! ### setDsr -/

@[simp] theorem State.setDsr_regs (s : State) (v : Word) : (s.setDsr v).regs = s.regs := rfl
@[simp] theorem State.setDsr_pc (s : State) (v : Word) : (s.setDsr v).pc = s.pc := rfl
@[simp] theorem State.setDsr_psr (s : State) (v : Word) : (s.setDsr v).psr = s.psr := rfl
@[simp] theorem State.setDsr_isp (s : State) (v : Word) : (s.setDsr v).isp = s.isp := rfl
@[simp] theorem State.setDsr_intbase (s : State) (v : Word) : (s.setDsr v).intbase = s.intbase := rfl
@[simp] theorem State.setDsr_cfg (s : State) (v : Word) : (s.setDsr v).cfg = s.cfg := rfl
@[simp] theorem State.setDsr_dcr (s : State) (v : Word) : (s.setDsr v).dcr = s.dcr := rfl
@[simp] theorem State.setDsr_dsr (s : State) (v : Word) : (s.setDsr v).dsr = v := rfl
@[simp] theorem State.setDsr_car (s : State) (v : Word) : (s.setDsr v).car = s.car := rfl
@[simp] theorem State.setDsr_dbgPending (s : State) (v : Word) : (s.setDsr v).dbgPending = s.dbgPending := rfl
@[simp] theorem State.setDsr_opState (s : State) (v : Word) : (s.setDsr v).opState = s.opState := rfl
@[simp] theorem State.setDsr_mem (s : State) (v : Word) : (s.setDsr v).mem = s.mem := rfl
@[simp] theorem State.setDsr_stale (s : State) (v : Word) : (s.setDsr v).stale = s.stale := rfl
@[simp] theorem State.setDsr_pins (s : State) (v : Word) : (s.setDsr v).pins = s.pins := rfl
@[simp] theorem State.setDsr_pinsAhead (s : State) (v : Word) : (s.setDsr v).pinsAhead = s.pinsAhead := rfl
@[simp] theorem State.setDsr_platform (s : State) (v : Word) : (s.setDsr v).platform = s.platform := rfl
@[simp] theorem State.setDsr_written (s : State) (v : Word) : (s.setDsr v).written = s.written := rfl
@[simp] theorem State.setDsr_fresh (s : State) (v : Word) : (s.setDsr v).fresh = s.fresh := rfl
@[simp] theorem State.setDsr_reg (s : State) (v : Word) (x : Reg) : (s.setDsr v).reg x = s.reg x := rfl
@[simp] theorem State.setDsr_flag (s : State) (v : Word) (j : Nat) : (s.setDsr v).flag j = s.flag j := rfl
@[simp] theorem State.setDsr_cfgEd (s : State) (v : Word) : (s.setDsr v).cfgEd = s.cfgEd := rfl
@[simp] theorem State.setDsr_kindAt (s : State) (v : Word) (x : Addr) : (s.setDsr v).kindAt x = s.kindAt x := rfl

/-! ### setCar -/

@[simp] theorem State.setCar_regs (s : State) (a : Addr) : (s.setCar a).regs = s.regs := rfl
@[simp] theorem State.setCar_pc (s : State) (a : Addr) : (s.setCar a).pc = s.pc := rfl
@[simp] theorem State.setCar_psr (s : State) (a : Addr) : (s.setCar a).psr = s.psr := rfl
@[simp] theorem State.setCar_isp (s : State) (a : Addr) : (s.setCar a).isp = s.isp := rfl
@[simp] theorem State.setCar_intbase (s : State) (a : Addr) : (s.setCar a).intbase = s.intbase := rfl
@[simp] theorem State.setCar_cfg (s : State) (a : Addr) : (s.setCar a).cfg = s.cfg := rfl
@[simp] theorem State.setCar_dcr (s : State) (a : Addr) : (s.setCar a).dcr = s.dcr := rfl
@[simp] theorem State.setCar_dsr (s : State) (a : Addr) : (s.setCar a).dsr = s.dsr := rfl
@[simp] theorem State.setCar_car (s : State) (a : Addr) : (s.setCar a).car = a := rfl
@[simp] theorem State.setCar_dbgPending (s : State) (a : Addr) : (s.setCar a).dbgPending = s.dbgPending := rfl
@[simp] theorem State.setCar_opState (s : State) (a : Addr) : (s.setCar a).opState = s.opState := rfl
@[simp] theorem State.setCar_mem (s : State) (a : Addr) : (s.setCar a).mem = s.mem := rfl
@[simp] theorem State.setCar_stale (s : State) (a : Addr) : (s.setCar a).stale = s.stale := rfl
@[simp] theorem State.setCar_pins (s : State) (a : Addr) : (s.setCar a).pins = s.pins := rfl
@[simp] theorem State.setCar_pinsAhead (s : State) (a : Addr) : (s.setCar a).pinsAhead = s.pinsAhead := rfl
@[simp] theorem State.setCar_platform (s : State) (a : Addr) : (s.setCar a).platform = s.platform := rfl
@[simp] theorem State.setCar_written (s : State) (a : Addr) : (s.setCar a).written = s.written := rfl
@[simp] theorem State.setCar_fresh (s : State) (a : Addr) : (s.setCar a).fresh = s.fresh := rfl
@[simp] theorem State.setCar_reg (s : State) (a : Addr) (x : Reg) : (s.setCar a).reg x = s.reg x := rfl
@[simp] theorem State.setCar_flag (s : State) (a : Addr) (j : Nat) : (s.setCar a).flag j = s.flag j := rfl
@[simp] theorem State.setCar_cfgEd (s : State) (a : Addr) : (s.setCar a).cfgEd = s.cfgEd := rfl
@[simp] theorem State.setCar_kindAt (s : State) (a : Addr) (x : Addr) : (s.setCar a).kindAt x = s.kindAt x := rfl

/-! ### setDbgPending -/

@[simp] theorem State.setDbgPending_regs (s : State) (b : Bool) : (s.setDbgPending b).regs = s.regs := rfl
@[simp] theorem State.setDbgPending_pc (s : State) (b : Bool) : (s.setDbgPending b).pc = s.pc := rfl
@[simp] theorem State.setDbgPending_psr (s : State) (b : Bool) : (s.setDbgPending b).psr = s.psr := rfl
@[simp] theorem State.setDbgPending_isp (s : State) (b : Bool) : (s.setDbgPending b).isp = s.isp := rfl
@[simp] theorem State.setDbgPending_intbase (s : State) (b : Bool) : (s.setDbgPending b).intbase = s.intbase := rfl
@[simp] theorem State.setDbgPending_cfg (s : State) (b : Bool) : (s.setDbgPending b).cfg = s.cfg := rfl
@[simp] theorem State.setDbgPending_dcr (s : State) (b : Bool) : (s.setDbgPending b).dcr = s.dcr := rfl
@[simp] theorem State.setDbgPending_dsr (s : State) (b : Bool) : (s.setDbgPending b).dsr = s.dsr := rfl
@[simp] theorem State.setDbgPending_car (s : State) (b : Bool) : (s.setDbgPending b).car = s.car := rfl
@[simp] theorem State.setDbgPending_dbgPending (s : State) (b : Bool) : (s.setDbgPending b).dbgPending = b := rfl
@[simp] theorem State.setDbgPending_opState (s : State) (b : Bool) : (s.setDbgPending b).opState = s.opState := rfl
@[simp] theorem State.setDbgPending_mem (s : State) (b : Bool) : (s.setDbgPending b).mem = s.mem := rfl
@[simp] theorem State.setDbgPending_stale (s : State) (b : Bool) : (s.setDbgPending b).stale = s.stale := rfl
@[simp] theorem State.setDbgPending_pins (s : State) (b : Bool) : (s.setDbgPending b).pins = s.pins := rfl
@[simp] theorem State.setDbgPending_pinsAhead (s : State) (b : Bool) : (s.setDbgPending b).pinsAhead = s.pinsAhead := rfl
@[simp] theorem State.setDbgPending_platform (s : State) (b : Bool) : (s.setDbgPending b).platform = s.platform := rfl
@[simp] theorem State.setDbgPending_written (s : State) (b : Bool) : (s.setDbgPending b).written = s.written := rfl
@[simp] theorem State.setDbgPending_fresh (s : State) (b : Bool) : (s.setDbgPending b).fresh = s.fresh := rfl
@[simp] theorem State.setDbgPending_reg (s : State) (b : Bool) (x : Reg) : (s.setDbgPending b).reg x = s.reg x := rfl
@[simp] theorem State.setDbgPending_flag (s : State) (b : Bool) (j : Nat) : (s.setDbgPending b).flag j = s.flag j := rfl
@[simp] theorem State.setDbgPending_cfgEd (s : State) (b : Bool) : (s.setDbgPending b).cfgEd = s.cfgEd := rfl
@[simp] theorem State.setDbgPending_kindAt (s : State) (b : Bool) (x : Addr) : (s.setDbgPending b).kindAt x = s.kindAt x := rfl

/-! ### setOpState -/

@[simp] theorem State.setOpState_regs (s : State) (o : OpState) : (s.setOpState o).regs = s.regs := rfl
@[simp] theorem State.setOpState_pc (s : State) (o : OpState) : (s.setOpState o).pc = s.pc := rfl
@[simp] theorem State.setOpState_psr (s : State) (o : OpState) : (s.setOpState o).psr = s.psr := rfl
@[simp] theorem State.setOpState_isp (s : State) (o : OpState) : (s.setOpState o).isp = s.isp := rfl
@[simp] theorem State.setOpState_intbase (s : State) (o : OpState) : (s.setOpState o).intbase = s.intbase := rfl
@[simp] theorem State.setOpState_cfg (s : State) (o : OpState) : (s.setOpState o).cfg = s.cfg := rfl
@[simp] theorem State.setOpState_dcr (s : State) (o : OpState) : (s.setOpState o).dcr = s.dcr := rfl
@[simp] theorem State.setOpState_dsr (s : State) (o : OpState) : (s.setOpState o).dsr = s.dsr := rfl
@[simp] theorem State.setOpState_car (s : State) (o : OpState) : (s.setOpState o).car = s.car := rfl
@[simp] theorem State.setOpState_dbgPending (s : State) (o : OpState) : (s.setOpState o).dbgPending = s.dbgPending := rfl
@[simp] theorem State.setOpState_opState (s : State) (o : OpState) : (s.setOpState o).opState = o := rfl
@[simp] theorem State.setOpState_mem (s : State) (o : OpState) : (s.setOpState o).mem = s.mem := rfl
@[simp] theorem State.setOpState_stale (s : State) (o : OpState) : (s.setOpState o).stale = s.stale := rfl
@[simp] theorem State.setOpState_pins (s : State) (o : OpState) : (s.setOpState o).pins = s.pins := rfl
@[simp] theorem State.setOpState_pinsAhead (s : State) (o : OpState) : (s.setOpState o).pinsAhead = s.pinsAhead := rfl
@[simp] theorem State.setOpState_platform (s : State) (o : OpState) : (s.setOpState o).platform = s.platform := rfl
@[simp] theorem State.setOpState_written (s : State) (o : OpState) : (s.setOpState o).written = s.written := rfl
@[simp] theorem State.setOpState_fresh (s : State) (o : OpState) : (s.setOpState o).fresh = s.fresh := rfl
@[simp] theorem State.setOpState_reg (s : State) (o : OpState) (x : Reg) : (s.setOpState o).reg x = s.reg x := rfl
@[simp] theorem State.setOpState_flag (s : State) (o : OpState) (j : Nat) : (s.setOpState o).flag j = s.flag j := rfl
@[simp] theorem State.setOpState_cfgEd (s : State) (o : OpState) : (s.setOpState o).cfgEd = s.cfgEd := rfl
@[simp] theorem State.setOpState_kindAt (s : State) (o : OpState) (x : Addr) : (s.setOpState o).kindAt x = s.kindAt x := rfl

/-! ### setStale -/

@[simp] theorem State.setStale_regs (s : State) (m : List Host.Cell) : (s.setStale m).regs = s.regs := rfl
@[simp] theorem State.setStale_pc (s : State) (m : List Host.Cell) : (s.setStale m).pc = s.pc := rfl
@[simp] theorem State.setStale_psr (s : State) (m : List Host.Cell) : (s.setStale m).psr = s.psr := rfl
@[simp] theorem State.setStale_isp (s : State) (m : List Host.Cell) : (s.setStale m).isp = s.isp := rfl
@[simp] theorem State.setStale_intbase (s : State) (m : List Host.Cell) : (s.setStale m).intbase = s.intbase := rfl
@[simp] theorem State.setStale_cfg (s : State) (m : List Host.Cell) : (s.setStale m).cfg = s.cfg := rfl
@[simp] theorem State.setStale_dcr (s : State) (m : List Host.Cell) : (s.setStale m).dcr = s.dcr := rfl
@[simp] theorem State.setStale_dsr (s : State) (m : List Host.Cell) : (s.setStale m).dsr = s.dsr := rfl
@[simp] theorem State.setStale_car (s : State) (m : List Host.Cell) : (s.setStale m).car = s.car := rfl
@[simp] theorem State.setStale_dbgPending (s : State) (m : List Host.Cell) : (s.setStale m).dbgPending = s.dbgPending := rfl
@[simp] theorem State.setStale_opState (s : State) (m : List Host.Cell) : (s.setStale m).opState = s.opState := rfl
@[simp] theorem State.setStale_mem (s : State) (m : List Host.Cell) : (s.setStale m).mem = s.mem := rfl
@[simp] theorem State.setStale_stale (s : State) (m : List Host.Cell) : (s.setStale m).stale = m := rfl
@[simp] theorem State.setStale_pins (s : State) (m : List Host.Cell) : (s.setStale m).pins = s.pins := rfl
@[simp] theorem State.setStale_pinsAhead (s : State) (m : List Host.Cell) : (s.setStale m).pinsAhead = s.pinsAhead := rfl
@[simp] theorem State.setStale_platform (s : State) (m : List Host.Cell) : (s.setStale m).platform = s.platform := rfl
@[simp] theorem State.setStale_written (s : State) (m : List Host.Cell) : (s.setStale m).written = s.written := rfl
@[simp] theorem State.setStale_fresh (s : State) (m : List Host.Cell) : (s.setStale m).fresh = s.fresh := rfl
@[simp] theorem State.setStale_reg (s : State) (m : List Host.Cell) (x : Reg) : (s.setStale m).reg x = s.reg x := rfl
@[simp] theorem State.setStale_flag (s : State) (m : List Host.Cell) (j : Nat) : (s.setStale m).flag j = s.flag j := rfl
@[simp] theorem State.setStale_cfgEd (s : State) (m : List Host.Cell) : (s.setStale m).cfgEd = s.cfgEd := rfl
@[simp] theorem State.setStale_kindAt (s : State) (m : List Host.Cell) (x : Addr) : (s.setStale m).kindAt x = s.kindAt x := rfl

/-! ### setFresh -/

@[simp] theorem State.setFresh_regs (s : State) (n : Nat) : (s.setFresh n).regs = s.regs := rfl
@[simp] theorem State.setFresh_pc (s : State) (n : Nat) : (s.setFresh n).pc = s.pc := rfl
@[simp] theorem State.setFresh_psr (s : State) (n : Nat) : (s.setFresh n).psr = s.psr := rfl
@[simp] theorem State.setFresh_isp (s : State) (n : Nat) : (s.setFresh n).isp = s.isp := rfl
@[simp] theorem State.setFresh_intbase (s : State) (n : Nat) : (s.setFresh n).intbase = s.intbase := rfl
@[simp] theorem State.setFresh_cfg (s : State) (n : Nat) : (s.setFresh n).cfg = s.cfg := rfl
@[simp] theorem State.setFresh_dcr (s : State) (n : Nat) : (s.setFresh n).dcr = s.dcr := rfl
@[simp] theorem State.setFresh_dsr (s : State) (n : Nat) : (s.setFresh n).dsr = s.dsr := rfl
@[simp] theorem State.setFresh_car (s : State) (n : Nat) : (s.setFresh n).car = s.car := rfl
@[simp] theorem State.setFresh_dbgPending (s : State) (n : Nat) : (s.setFresh n).dbgPending = s.dbgPending := rfl
@[simp] theorem State.setFresh_opState (s : State) (n : Nat) : (s.setFresh n).opState = s.opState := rfl
@[simp] theorem State.setFresh_mem (s : State) (n : Nat) : (s.setFresh n).mem = s.mem := rfl
@[simp] theorem State.setFresh_stale (s : State) (n : Nat) : (s.setFresh n).stale = s.stale := rfl
@[simp] theorem State.setFresh_pins (s : State) (n : Nat) : (s.setFresh n).pins = s.pins := rfl
@[simp] theorem State.setFresh_pinsAhead (s : State) (n : Nat) : (s.setFresh n).pinsAhead = s.pinsAhead := rfl
@[simp] theorem State.setFresh_platform (s : State) (n : Nat) : (s.setFresh n).platform = s.platform := rfl
@[simp] theorem State.setFresh_written (s : State) (n : Nat) : (s.setFresh n).written = s.written := rfl
@[simp] theorem State.setFresh_fresh (s : State) (n : Nat) : (s.setFresh n).fresh = n := rfl
@[simp] theorem State.setFresh_reg (s : State) (n : Nat) (x : Reg) : (s.setFresh n).reg x = s.reg x := rfl
@[simp] theorem State.setFresh_flag (s : State) (n : Nat) (j : Nat) : (s.setFresh n).flag j = s.flag j := rfl
@[simp] theorem State.setFresh_cfgEd (s : State) (n : Nat) : (s.setFresh n).cfgEd = s.cfgEd := rfl
@[simp] theorem State.setFresh_kindAt (s : State) (n : Nat) (x : Addr) : (s.setFresh n).kindAt x = s.kindAt x := rfl

/-! ### serialize -/

@[simp] theorem State.serialize_regs (s : State) : (s.serialize).regs = s.regs := rfl
@[simp] theorem State.serialize_pc (s : State) : (s.serialize).pc = s.pc := rfl
@[simp] theorem State.serialize_psr (s : State) : (s.serialize).psr = s.psr := rfl
@[simp] theorem State.serialize_isp (s : State) : (s.serialize).isp = s.isp := rfl
@[simp] theorem State.serialize_intbase (s : State) : (s.serialize).intbase = s.intbase := rfl
@[simp] theorem State.serialize_cfg (s : State) : (s.serialize).cfg = s.cfg := rfl
@[simp] theorem State.serialize_dcr (s : State) : (s.serialize).dcr = s.dcr := rfl
@[simp] theorem State.serialize_dsr (s : State) : (s.serialize).dsr = s.dsr := rfl
@[simp] theorem State.serialize_car (s : State) : (s.serialize).car = s.car := rfl
@[simp] theorem State.serialize_dbgPending (s : State) : (s.serialize).dbgPending = s.dbgPending := rfl
@[simp] theorem State.serialize_opState (s : State) : (s.serialize).opState = s.opState := rfl
@[simp] theorem State.serialize_mem (s : State) : (s.serialize).mem = s.mem := rfl
@[simp] theorem State.serialize_stale (s : State) : (s.serialize).stale = [] := rfl
@[simp] theorem State.serialize_pins (s : State) : (s.serialize).pins = s.pins := rfl
@[simp] theorem State.serialize_pinsAhead (s : State) : (s.serialize).pinsAhead = s.pinsAhead := rfl
@[simp] theorem State.serialize_platform (s : State) : (s.serialize).platform = s.platform := rfl
@[simp] theorem State.serialize_written (s : State) : (s.serialize).written = s.written := rfl
@[simp] theorem State.serialize_fresh (s : State) : (s.serialize).fresh = s.fresh := rfl
@[simp] theorem State.serialize_reg (s : State) (x : Reg) : (s.serialize).reg x = s.reg x := rfl
@[simp] theorem State.serialize_flag (s : State) (j : Nat) : (s.serialize).flag j = s.flag j := rfl
@[simp] theorem State.serialize_cfgEd (s : State) : (s.serialize).cfgEd = s.cfgEd := rfl
@[simp] theorem State.serialize_kindAt (s : State) (x : Addr) : (s.serialize).kindAt x = s.kindAt x := rfl

/-! ### recordMatch -/

@[simp] theorem State.recordMatch_regs (s : State) (st : Nat) : (s.recordMatch st).regs = s.regs := rfl
@[simp] theorem State.recordMatch_pc (s : State) (st : Nat) : (s.recordMatch st).pc = s.pc := rfl
@[simp] theorem State.recordMatch_psr (s : State) (st : Nat) : (s.recordMatch st).psr = s.psr := rfl
@[simp] theorem State.recordMatch_isp (s : State) (st : Nat) : (s.recordMatch st).isp = s.isp := rfl
@[simp] theorem State.recordMatch_intbase (s : State) (st : Nat) : (s.recordMatch st).intbase = s.intbase := rfl
@[simp] theorem State.recordMatch_cfg (s : State) (st : Nat) : (s.recordMatch st).cfg = s.cfg := rfl
@[simp] theorem State.recordMatch_dcr (s : State) (st : Nat) : (s.recordMatch st).dcr = withBit s.dcr dcrDen false := rfl
@[simp] theorem State.recordMatch_dsr (s : State) (st : Nat) : (s.recordMatch st).dsr = withBit s.dsr st true := rfl
@[simp] theorem State.recordMatch_car (s : State) (st : Nat) : (s.recordMatch st).car = s.car := rfl
@[simp] theorem State.recordMatch_dbgPending (s : State) (st : Nat) : (s.recordMatch st).dbgPending = true := rfl
@[simp] theorem State.recordMatch_opState (s : State) (st : Nat) : (s.recordMatch st).opState = s.opState := rfl
@[simp] theorem State.recordMatch_mem (s : State) (st : Nat) : (s.recordMatch st).mem = s.mem := rfl
@[simp] theorem State.recordMatch_stale (s : State) (st : Nat) : (s.recordMatch st).stale = s.stale := rfl
@[simp] theorem State.recordMatch_pins (s : State) (st : Nat) : (s.recordMatch st).pins = s.pins := rfl
@[simp] theorem State.recordMatch_pinsAhead (s : State) (st : Nat) : (s.recordMatch st).pinsAhead = s.pinsAhead := rfl
@[simp] theorem State.recordMatch_platform (s : State) (st : Nat) : (s.recordMatch st).platform = s.platform := rfl
@[simp] theorem State.recordMatch_written (s : State) (st : Nat) : (s.recordMatch st).written = s.written := rfl
@[simp] theorem State.recordMatch_fresh (s : State) (st : Nat) : (s.recordMatch st).fresh = s.fresh := rfl
@[simp] theorem State.recordMatch_reg (s : State) (st : Nat) (x : Reg) : (s.recordMatch st).reg x = s.reg x := rfl
@[simp] theorem State.recordMatch_flag (s : State) (st : Nat) (j : Nat) : (s.recordMatch st).flag j = s.flag j := rfl
@[simp] theorem State.recordMatch_cfgEd (s : State) (st : Nat) : (s.recordMatch st).cfgEd = s.cfgEd := rfl
@[simp] theorem State.recordMatch_kindAt (s : State) (st : Nat) (x : Addr) : (s.recordMatch st).kindAt x = s.kindAt x := rfl

/-! ### setCarryOverflow -/

@[simp] theorem State.setCarryOverflow_regs (s : State) {n : Nat} (r : Arith n) : (s.setCarryOverflow r).regs = s.regs := rfl
@[simp] theorem State.setCarryOverflow_pc (s : State) {n : Nat} (r : Arith n) : (s.setCarryOverflow r).pc = s.pc := rfl
@[simp] theorem State.setCarryOverflow_psr (s : State) {n : Nat} (r : Arith n) : (s.setCarryOverflow r).psr = withBit (withBit s.psr psrC r.carry) psrF r.overflow := rfl
@[simp] theorem State.setCarryOverflow_isp (s : State) {n : Nat} (r : Arith n) : (s.setCarryOverflow r).isp = s.isp := rfl
@[simp] theorem State.setCarryOverflow_intbase (s : State) {n : Nat} (r : Arith n) : (s.setCarryOverflow r).intbase = s.intbase := rfl
@[simp] theorem State.setCarryOverflow_cfg (s : State) {n : Nat} (r : Arith n) : (s.setCarryOverflow r).cfg = s.cfg := rfl
@[simp] theorem State.setCarryOverflow_dcr (s : State) {n : Nat} (r : Arith n) : (s.setCarryOverflow r).dcr = s.dcr := rfl
@[simp] theorem State.setCarryOverflow_dsr (s : State) {n : Nat} (r : Arith n) : (s.setCarryOverflow r).dsr = s.dsr := rfl
@[simp] theorem State.setCarryOverflow_car (s : State) {n : Nat} (r : Arith n) : (s.setCarryOverflow r).car = s.car := rfl
@[simp] theorem State.setCarryOverflow_dbgPending (s : State) {n : Nat} (r : Arith n) : (s.setCarryOverflow r).dbgPending = s.dbgPending := rfl
@[simp] theorem State.setCarryOverflow_opState (s : State) {n : Nat} (r : Arith n) : (s.setCarryOverflow r).opState = s.opState := rfl
@[simp] theorem State.setCarryOverflow_mem (s : State) {n : Nat} (r : Arith n) : (s.setCarryOverflow r).mem = s.mem := rfl
@[simp] theorem State.setCarryOverflow_stale (s : State) {n : Nat} (r : Arith n) : (s.setCarryOverflow r).stale = s.stale := rfl
@[simp] theorem State.setCarryOverflow_pins (s : State) {n : Nat} (r : Arith n) : (s.setCarryOverflow r).pins = s.pins := rfl
@[simp] theorem State.setCarryOverflow_pinsAhead (s : State) {n : Nat} (r : Arith n) : (s.setCarryOverflow r).pinsAhead = s.pinsAhead := rfl
@[simp] theorem State.setCarryOverflow_platform (s : State) {n : Nat} (r : Arith n) : (s.setCarryOverflow r).platform = s.platform := rfl
@[simp] theorem State.setCarryOverflow_written (s : State) {n : Nat} (r : Arith n) : (s.setCarryOverflow r).written = s.written := rfl
@[simp] theorem State.setCarryOverflow_fresh (s : State) {n : Nat} (r : Arith n) : (s.setCarryOverflow r).fresh = s.fresh := rfl
@[simp] theorem State.setCarryOverflow_reg (s : State) {n : Nat} (r : Arith n) (x : Reg) : (s.setCarryOverflow r).reg x = s.reg x := rfl
@[simp] theorem State.setCarryOverflow_cfgEd (s : State) {n : Nat} (r : Arith n) : (s.setCarryOverflow r).cfgEd = s.cfgEd := rfl
@[simp] theorem State.setCarryOverflow_kindAt (s : State) {n : Nat} (r : Arith n) (x : Addr) : (s.setCarryOverflow r).kindAt x = s.kindAt x := rfl

/-! ### drawWord -/

@[simp] theorem State.drawWord_regs (s : State) : (s.drawWord.2).regs = s.regs := rfl
@[simp] theorem State.drawWord_pc (s : State) : (s.drawWord.2).pc = s.pc := rfl
@[simp] theorem State.drawWord_psr (s : State) : (s.drawWord.2).psr = s.psr := rfl
@[simp] theorem State.drawWord_isp (s : State) : (s.drawWord.2).isp = s.isp := rfl
@[simp] theorem State.drawWord_intbase (s : State) : (s.drawWord.2).intbase = s.intbase := rfl
@[simp] theorem State.drawWord_cfg (s : State) : (s.drawWord.2).cfg = s.cfg := rfl
@[simp] theorem State.drawWord_dcr (s : State) : (s.drawWord.2).dcr = s.dcr := rfl
@[simp] theorem State.drawWord_dsr (s : State) : (s.drawWord.2).dsr = s.dsr := rfl
@[simp] theorem State.drawWord_car (s : State) : (s.drawWord.2).car = s.car := rfl
@[simp] theorem State.drawWord_dbgPending (s : State) : (s.drawWord.2).dbgPending = s.dbgPending := rfl
@[simp] theorem State.drawWord_opState (s : State) : (s.drawWord.2).opState = s.opState := rfl
@[simp] theorem State.drawWord_mem (s : State) : (s.drawWord.2).mem = s.mem := rfl
@[simp] theorem State.drawWord_stale (s : State) : (s.drawWord.2).stale = s.stale := rfl
@[simp] theorem State.drawWord_pins (s : State) : (s.drawWord.2).pins = s.pins := rfl
@[simp] theorem State.drawWord_pinsAhead (s : State) : (s.drawWord.2).pinsAhead = s.pinsAhead := rfl
@[simp] theorem State.drawWord_platform (s : State) : (s.drawWord.2).platform = s.platform := rfl
@[simp] theorem State.drawWord_written (s : State) : (s.drawWord.2).written = s.written := rfl
@[simp] theorem State.drawWord_fresh (s : State) : (s.drawWord.2).fresh = s.fresh + 1 := rfl
@[simp] theorem State.drawWord_reg (s : State) (x : Reg) : (s.drawWord.2).reg x = s.reg x := rfl
@[simp] theorem State.drawWord_flag (s : State) (j : Nat) : (s.drawWord.2).flag j = s.flag j := rfl
@[simp] theorem State.drawWord_cfgEd (s : State) : (s.drawWord.2).cfgEd = s.cfgEd := rfl
@[simp] theorem State.drawWord_kindAt (s : State) (x : Addr) : (s.drawWord.2).kindAt x = s.kindAt x := rfl

/-! ### drawByte -/

@[simp] theorem State.drawByte_regs (s : State) : (s.drawByte.2).regs = s.regs := rfl
@[simp] theorem State.drawByte_pc (s : State) : (s.drawByte.2).pc = s.pc := rfl
@[simp] theorem State.drawByte_psr (s : State) : (s.drawByte.2).psr = s.psr := rfl
@[simp] theorem State.drawByte_isp (s : State) : (s.drawByte.2).isp = s.isp := rfl
@[simp] theorem State.drawByte_intbase (s : State) : (s.drawByte.2).intbase = s.intbase := rfl
@[simp] theorem State.drawByte_cfg (s : State) : (s.drawByte.2).cfg = s.cfg := rfl
@[simp] theorem State.drawByte_dcr (s : State) : (s.drawByte.2).dcr = s.dcr := rfl
@[simp] theorem State.drawByte_dsr (s : State) : (s.drawByte.2).dsr = s.dsr := rfl
@[simp] theorem State.drawByte_car (s : State) : (s.drawByte.2).car = s.car := rfl
@[simp] theorem State.drawByte_dbgPending (s : State) : (s.drawByte.2).dbgPending = s.dbgPending := rfl
@[simp] theorem State.drawByte_opState (s : State) : (s.drawByte.2).opState = s.opState := rfl
@[simp] theorem State.drawByte_mem (s : State) : (s.drawByte.2).mem = s.mem := rfl
@[simp] theorem State.drawByte_stale (s : State) : (s.drawByte.2).stale = s.stale := rfl
@[simp] theorem State.drawByte_pins (s : State) : (s.drawByte.2).pins = s.pins := rfl
@[simp] theorem State.drawByte_pinsAhead (s : State) : (s.drawByte.2).pinsAhead = s.pinsAhead := rfl
@[simp] theorem State.drawByte_platform (s : State) : (s.drawByte.2).platform = s.platform := rfl
@[simp] theorem State.drawByte_written (s : State) : (s.drawByte.2).written = s.written := rfl
@[simp] theorem State.drawByte_fresh (s : State) : (s.drawByte.2).fresh = s.fresh + 1 := rfl
@[simp] theorem State.drawByte_reg (s : State) (x : Reg) : (s.drawByte.2).reg x = s.reg x := rfl
@[simp] theorem State.drawByte_flag (s : State) (j : Nat) : (s.drawByte.2).flag j = s.flag j := rfl
@[simp] theorem State.drawByte_cfgEd (s : State) : (s.drawByte.2).cfgEd = s.cfgEd := rfl
@[simp] theorem State.drawByte_kindAt (s : State) (x : Addr) : (s.drawByte.2).kindAt x = s.kindAt x := rfl

/-! ### drawBit -/

@[simp] theorem State.drawBit_regs (s : State) : (s.drawBit.2).regs = s.regs := rfl
@[simp] theorem State.drawBit_pc (s : State) : (s.drawBit.2).pc = s.pc := rfl
@[simp] theorem State.drawBit_psr (s : State) : (s.drawBit.2).psr = s.psr := rfl
@[simp] theorem State.drawBit_isp (s : State) : (s.drawBit.2).isp = s.isp := rfl
@[simp] theorem State.drawBit_intbase (s : State) : (s.drawBit.2).intbase = s.intbase := rfl
@[simp] theorem State.drawBit_cfg (s : State) : (s.drawBit.2).cfg = s.cfg := rfl
@[simp] theorem State.drawBit_dcr (s : State) : (s.drawBit.2).dcr = s.dcr := rfl
@[simp] theorem State.drawBit_dsr (s : State) : (s.drawBit.2).dsr = s.dsr := rfl
@[simp] theorem State.drawBit_car (s : State) : (s.drawBit.2).car = s.car := rfl
@[simp] theorem State.drawBit_dbgPending (s : State) : (s.drawBit.2).dbgPending = s.dbgPending := rfl
@[simp] theorem State.drawBit_opState (s : State) : (s.drawBit.2).opState = s.opState := rfl
@[simp] theorem State.drawBit_mem (s : State) : (s.drawBit.2).mem = s.mem := rfl
@[simp] theorem State.drawBit_stale (s : State) : (s.drawBit.2).stale = s.stale := rfl
@[simp] theorem State.drawBit_pins (s : State) : (s.drawBit.2).pins = s.pins := rfl
@[simp] theorem State.drawBit_pinsAhead (s : State) : (s.drawBit.2).pinsAhead = s.pinsAhead := rfl
@[simp] theorem State.drawBit_platform (s : State) : (s.drawBit.2).platform = s.platform := rfl
@[simp] theorem State.drawBit_written (s : State) : (s.drawBit.2).written = s.written := rfl
@[simp] theorem State.drawBit_fresh (s : State) : (s.drawBit.2).fresh = s.fresh + 1 := rfl
@[simp] theorem State.drawBit_reg (s : State) (x : Reg) : (s.drawBit.2).reg x = s.reg x := rfl
@[simp] theorem State.drawBit_flag (s : State) (j : Nat) : (s.drawBit.2).flag j = s.flag j := rfl
@[simp] theorem State.drawBit_cfgEd (s : State) : (s.drawBit.2).cfgEd = s.cfgEd := rfl
@[simp] theorem State.drawBit_kindAt (s : State) (x : Addr) : (s.drawBit.2).kindAt x = s.kindAt x := rfl

/-! ### drawAddr -/

@[simp] theorem State.drawAddr_regs (s : State) : (s.drawAddr.2).regs = s.regs := rfl
@[simp] theorem State.drawAddr_pc (s : State) : (s.drawAddr.2).pc = s.pc := rfl
@[simp] theorem State.drawAddr_psr (s : State) : (s.drawAddr.2).psr = s.psr := rfl
@[simp] theorem State.drawAddr_isp (s : State) : (s.drawAddr.2).isp = s.isp := rfl
@[simp] theorem State.drawAddr_intbase (s : State) : (s.drawAddr.2).intbase = s.intbase := rfl
@[simp] theorem State.drawAddr_cfg (s : State) : (s.drawAddr.2).cfg = s.cfg := rfl
@[simp] theorem State.drawAddr_dcr (s : State) : (s.drawAddr.2).dcr = s.dcr := rfl
@[simp] theorem State.drawAddr_dsr (s : State) : (s.drawAddr.2).dsr = s.dsr := rfl
@[simp] theorem State.drawAddr_car (s : State) : (s.drawAddr.2).car = s.car := rfl
@[simp] theorem State.drawAddr_dbgPending (s : State) : (s.drawAddr.2).dbgPending = s.dbgPending := rfl
@[simp] theorem State.drawAddr_opState (s : State) : (s.drawAddr.2).opState = s.opState := rfl
@[simp] theorem State.drawAddr_mem (s : State) : (s.drawAddr.2).mem = s.mem := rfl
@[simp] theorem State.drawAddr_stale (s : State) : (s.drawAddr.2).stale = s.stale := rfl
@[simp] theorem State.drawAddr_pins (s : State) : (s.drawAddr.2).pins = s.pins := rfl
@[simp] theorem State.drawAddr_pinsAhead (s : State) : (s.drawAddr.2).pinsAhead = s.pinsAhead := rfl
@[simp] theorem State.drawAddr_platform (s : State) : (s.drawAddr.2).platform = s.platform := rfl
@[simp] theorem State.drawAddr_written (s : State) : (s.drawAddr.2).written = s.written := rfl
@[simp] theorem State.drawAddr_fresh (s : State) : (s.drawAddr.2).fresh = s.fresh + 1 := rfl
@[simp] theorem State.drawAddr_reg (s : State) (x : Reg) : (s.drawAddr.2).reg x = s.reg x := rfl
@[simp] theorem State.drawAddr_flag (s : State) (j : Nat) : (s.drawAddr.2).flag j = s.flag j := rfl
@[simp] theorem State.drawAddr_cfgEd (s : State) : (s.drawAddr.2).cfgEd = s.cfgEd := rfl
@[simp] theorem State.drawAddr_kindAt (s : State) (x : Addr) : (s.drawAddr.2).kindAt x = s.kindAt x := rfl

/-! ### Registers -/

theorem State.reg_setReg (s : State) (r : Reg) (v : Word) (x : Reg) :
    (s.setReg r v).reg x = if x = r then v else s.reg x := by
  rcases eq_or_ne x r with h | h
  · subst h; simp [State.reg]
  · have hv : r.val ≠ x.val := fun e => h (Fin.ext e.symm)
    simp [State.reg, hv, h]

@[simp] theorem State.reg_setReg_self (s : State) (r : Reg) (v : Word) : (s.setReg r v).reg r = v := by
  rw [State.reg_setReg]; simp

theorem State.reg_setReg_ne (s : State) {r x : Reg} (v : Word) (h : x ≠ r) :
    (s.setReg r v).reg x = s.reg x := by
  rw [State.reg_setReg]; simp [h]

theorem State.reg_setRegByte (s : State) (r : Reg) (v : Byte) (x : Reg) :
    (s.setRegByte r v).reg x = if x = r then (s.reg r).extractLsb' 8 8 ++ v else s.reg x :=
  State.reg_setReg s r _ x

/-- Two states that agree field by field are equal. -/
theorem State.ext_fields {s t : State} (h1 : s.regs = t.regs) (h2 : s.pc = t.pc) (h3 : s.psr = t.psr)
    (h4 : s.isp = t.isp) (h5 : s.intbase = t.intbase) (h6 : s.cfg = t.cfg) (h7 : s.dcr = t.dcr)
    (h8 : s.dsr = t.dsr) (h9 : s.car = t.car) (h10 : s.dbgPending = t.dbgPending)
    (h11 : s.opState = t.opState) (h12 : s.mem = t.mem) (h13 : s.stale = t.stale) (h14 : s.pins = t.pins)
    (h15 : s.pinsAhead = t.pinsAhead) (h16 : s.platform = t.platform) (h17 : s.written = t.written)
    (h18 : s.fresh = t.fresh) : s = t := by
  cases s; cases t; simp_all

end Sys2Proof.Machine
end

