-- ==== Sys2Proof/Laws/Bits.lean ====
section
/-! SUPPORT. What the bit helpers compute, bit by bit and as numbers. -/

namespace Sys2Proof.Machine

/-! ### withBit -/

theorem getLsbD_withBit (w : BitVec n) (k : Nat) (b : Bool) (j : Nat) :
    (withBit w k b).getLsbD j = if j = k ∧ k < n then b else w.getLsbD j := by
  unfold withBit
  by_cases hj : j < n
  · by_cases hk : j = k
    · subst hk; cases b <;> simp [hj]
    · cases b <;> simp [hj, hk]
  · have : ¬ (j = k ∧ k < n) := by omega
    cases b <;> simp [BitVec.getLsbD_of_ge _ _ (Nat.le_of_not_lt hj), this]

theorem getLsbD_withBit_self (w : BitVec n) {k : Nat} (b : Bool) (h : k < n) :
    (withBit w k b).getLsbD k = b := by rw [getLsbD_withBit]; simp [h]

theorem getLsbD_withBit_ne (w : BitVec n) {k j : Nat} (b : Bool) (h : j ≠ k) :
    (withBit w k b).getLsbD j = w.getLsbD j := by rw [getLsbD_withBit]; simp [h]

/-- A word with a bit set to what it is stays as it is. -/
theorem withBit_getLsbD (w : BitVec n) {k : Nat} (h : k < n) : withBit w k (w.getLsbD k) = w := by
  refine BitVec.eq_of_getLsbD_eq fun j _ => ?_
  rw [getLsbD_withBit]
  by_cases hj : j = k
  · subst hj; simp [h]
  · simp [hj]

/-- A flag after a flag was written. -/
theorem State.flag_setFlag (s : State) {k : Nat} (b : Bool) (j : Nat) (h : k < 16) :
    (s.setFlag k b).flag j = if j = k then b else s.flag j := by
  simp [State.flag, getLsbD_withBit, h]

/-! ### evenAddr -/

theorem evenAddr_bit0 (a : Addr) : (evenAddr a).getLsbD 0 = false := by
  simp [evenAddr]

theorem toNat_evenAddr (a : Addr) : (evenAddr a).toNat = a.toNat / 2 * 2 := by
  have h : evenAddr a = (a >>> 1) <<< 1 := by
    refine BitVec.eq_of_getLsbD_eq fun j hj => ?_
    rcases Nat.eq_zero_or_pos j with h0 | h0
    · subst h0; simp [evenAddr]
    · have e : (0x1FFFFE#21).getLsbD j = true := by
        interval_cases j <;> decide
      have hj1 : ¬ j < 1 := by omega
      have h1 : 1 + (j - 1) = j := by omega
      simp [evenAddr, e, hj, hj1, h1]
  rw [h, BitVec.toNat_shiftLeft, BitVec.toNat_ushiftRight, Nat.shiftLeft_eq, Nat.shiftRight_eq_div_pow]
  have := a.isLt
  rw [Nat.mod_eq_of_lt (by omega)]

theorem evenAddr_eq_self {a : Addr} (h : a.getLsbD 0 = false) : evenAddr a = a := by
  apply BitVec.eq_of_toNat_eq
  rw [toNat_evenAddr]
  have : a.toNat % 2 = 0 := by
    have h2 := h
    rw [BitVec.getLsbD, Nat.testBit_zero] at h2
    simpa using h2
  omega

@[simp] theorem evenAddr_evenAddr (a : Addr) : evenAddr (evenAddr a) = evenAddr a :=
  evenAddr_eq_self (evenAddr_bit0 a)

/-- The address after an instruction of len bytes, as a number (10_state.md R27). -/
theorem toNat_advance_pc (s : State) (len : Addr) :
    (s.advance len).pc.toNat = (s.pc.toNat + len.toNat) % 2 ^ 21 / 2 * 2 := by
  rw [State.advance_pc, toNat_evenAddr, BitVec.toNat_add]

/-! ### Halves of words and addresses -/

theorem toNat_low8 (w : Word) : (w.extractLsb' 0 8).toNat = w.toNat % 256 := by
  simp [BitVec.extractLsb'_toNat]

theorem toNat_high8 (w : Word) : (w.extractLsb' 8 8).toNat = w.toNat / 256 := by
  have := w.isLt
  rw [BitVec.extractLsb'_toNat, Nat.shiftRight_eq_div_pow, Nat.mod_eq_of_lt (by omega)]

theorem toNat_append8 (hi lo : Byte) : (hi ++ lo).toNat = hi.toNat * 256 + lo.toNat := by
  have hl := lo.isLt
  rw [BitVec.toNat_append, Nat.shiftLeft_eq, Nat.mul_comm, ← Nat.two_pow_add_eq_or_of_lt hl hi.toNat]

/-- A word is its high byte above its low byte. -/
theorem append_halves (w : Word) : w.extractLsb' 8 8 ++ w.extractLsb' 0 8 = w := by
  apply BitVec.eq_of_toNat_eq
  rw [toNat_append8, toNat_low8, toNat_high8]
  omega

theorem low_append (hi lo : Byte) : (hi ++ lo).extractLsb' 0 8 = lo := by
  apply BitVec.eq_of_toNat_eq
  have := lo.isLt
  rw [toNat_low8, toNat_append8]
  omega

theorem high_append (hi lo : Byte) : (hi ++ lo).extractLsb' 8 8 = hi := by
  apply BitVec.eq_of_toNat_eq
  have := lo.isLt
  rw [toNat_high8, toNat_append8]
  omega

/-- The address after the last is another one. -/
theorem succ_ne (a : Addr) : a + 1 ≠ a := by
  intro h
  have h1 := congrArg BitVec.toNat h
  have h2 := a.isLt
  rw [BitVec.toNat_add] at h1
  simp at h1
  omega

end Sys2Proof.Machine
end

