-- ==== Sys2Proof/Laws/Memory.lean ====
section
/-! SUPPORT. Memory: what a byte reads as after a write, and that every write keeps the canonical form. -/

namespace Sys2Proof.Machine

/-- Every address of m lies above lo. -/
def memAbove (lo : Nat) (m : Memory) : Prop := ∀ c ∈ m, lo < c.1

theorem memWfFrom_cons {lo : Option Nat} {c : Host.Cell} {m : Memory} :
    memWfFrom lo (c :: m) = true ↔
      (∀ b ∈ lo, b < c.1) ∧ c.1 < 2 ^ 21 ∧ c.2 ≠ unlistedByte ∧ memWfFrom (some c.1) m = true := by
  cases lo <;> simp [memWfFrom, and_assoc]

theorem memAbove_of_wf : ∀ {m : Memory} {lo : Nat}, memWfFrom (some lo) m = true → memAbove lo m
  | [], _, _ => by simp [memAbove]
  | c :: m, lo, h => by
    obtain ⟨h1, _, _, h4⟩ := memWfFrom_cons.1 h
    have hc : lo < c.1 := h1 lo rfl
    intro d hd
    rcases List.mem_cons.1 hd with rfl | hd
    · exact hc
    · exact hc.trans (memAbove_of_wf h4 d hd)

theorem memRead_eq_unlisted : ∀ {m : Memory} {a : Nat}, (∀ c ∈ m, c.1 ≠ a) → memRead m a = unlistedByte
  | [], _, _ => rfl
  | c :: m, a, h => by
    simp only [memRead]
    rw [if_neg (h c (by simp)), memRead_eq_unlisted fun d hd => h d (by simp [hd])]

/-- A write leaves every other address as it was. -/
theorem memRead_memWrite_ne : ∀ (m : Memory) (a : Nat) (v : Byte) {x : Nat}, x ≠ a →
    memRead (memWrite m a v) x = memRead m x
  | [], a, v, x, h => by
    simp only [memWrite]
    split
    · rfl
    · simp [memRead, h.symm]
  | c :: m, a, v, x, h => by
    simp only [memWrite]
    split
    · split
      · rfl
      · simp [memRead, h.symm]
    · split
      · rename_i hca
        split
        · simp only [memRead]; rw [if_neg (by omega)]
        · simp only [memRead]; rw [if_neg h.symm, if_neg (by omega)]
      · simp only [memRead]
        split
        · rfl
        · exact memRead_memWrite_ne m a v h

/-- In canonical memory a write is read back. -/
theorem memRead_memWrite_self' : ∀ {lo : Option Nat} (m : Memory) (a : Nat) (v : Byte),
    memWfFrom lo m = true → memRead (memWrite m a v) a = v
  | _, [], a, v, _ => by
    simp only [memWrite]
    split
    · rename_i hv; simp [memRead, hv]
    · simp [memRead]
  | _, c :: m, a, v, h => by
    obtain ⟨_, _, _, h4⟩ := memWfFrom_cons.1 h
    simp only [memWrite]
    split
    · rename_i hlt
      split
      · rename_i hv
        rw [hv]
        refine memRead_eq_unlisted fun d hd => ?_
        rcases List.mem_cons.1 hd with rfl | hd
        · omega
        · have := memAbove_of_wf h4 d hd; omega
      · simp [memRead]
    · split
      · rename_i hca
        split
        · rename_i hv
          rw [hv]
          refine memRead_eq_unlisted fun d hd => ?_
          have := memAbove_of_wf h4 d hd; omega
        · simp [memRead]
      · rename_i hca
        simp only [memRead]
        rw [if_neg hca]
        exact memRead_memWrite_self' m a v h4

theorem memRead_memWrite_self {m : Memory} (h : m.wf = true) (a : Nat) (v : Byte) :
    memRead (memWrite m a v) a = v := memRead_memWrite_self' m a v h

/-- What a byte reads as after a write, in canonical memory. -/
theorem memRead_memWrite {m : Memory} (h : m.wf = true) (a : Nat) (v : Byte) (x : Nat) :
    memRead (memWrite m a v) x = if x = a then v else memRead m x := by
  split
  · rename_i e; subst e; exact memRead_memWrite_self h x v
  · rename_i e; exact memRead_memWrite_ne m a v e

theorem memWfFrom_memWrite : ∀ {lo : Option Nat} (m : Memory) (a : Nat) (v : Byte),
    memWfFrom lo m = true → a < 2 ^ 21 → (∀ b ∈ lo, b < a) → memWfFrom lo (memWrite m a v) = true
  | lo, [], a, v, _, ha, hlo => by
    simp only [memWrite]
    split
    · cases lo <;> rfl
    · rename_i hv
      exact memWfFrom_cons.2 ⟨hlo, ha, hv, rfl⟩
  | lo, c :: m, a, v, h, ha, hlo => by
    obtain ⟨h1, h2, h3, h4⟩ := memWfFrom_cons.1 h
    simp only [memWrite]
    split
    · rename_i hlt
      split
      · exact h
      · rename_i hv
        exact memWfFrom_cons.2 ⟨hlo, ha, hv, memWfFrom_cons.2 ⟨by simpa using hlt, h2, h3, h4⟩⟩
    · split
      · rename_i hca
        split
        · cases m with
          | nil => cases lo <;> rfl
          | cons d m =>
            obtain ⟨g1, g2, g3, g4⟩ := memWfFrom_cons.1 h4
            exact memWfFrom_cons.2 ⟨fun b hb => (h1 b hb).trans (g1 c.1 rfl), g2, g3, g4⟩
        · rename_i hv
          refine memWfFrom_cons.2 ⟨hlo, ha, hv, ?_⟩
          subst hca; exact h4
      · refine memWfFrom_cons.2 ⟨h1, h2, h3, memWfFrom_memWrite m a v h4 ha ?_⟩
        intro b hb
        obtain rfl : c.1 = b := by simpa using hb
        omega

/-- A write keeps the canonical form. -/
theorem wf_memWrite {m : Memory} (h : m.wf = true) {a : Nat} (ha : a < 2 ^ 21) (v : Byte) :
    (memWrite m a v).wf = true :=
  memWfFrom_memWrite m a v h ha (by simp)

/-- A write at an address of the machine keeps the canonical form. -/
theorem wf_memWrite_addr {m : Memory} (h : m.wf = true) (a : Addr) (v : Byte) :
    (memWrite m a.toNat v).wf = true := wf_memWrite h a.isLt v

theorem wf_placeBytes : ∀ (bs : List Byte) {m : Memory} (a : Addr), m.wf = true →
    (placeBytes m a bs).wf = true
  | [], _, _, h => h
  | b :: bs, _, a, h => wf_placeBytes bs (a + 1) (wf_memWrite_addr h a b)

/-- The memory at reset is canonical. -/
theorem wf_reset : State.reset.mem.wf = true := rfl

/-- Writing back what a byte reads as changes nothing a read can see. -/
theorem memRead_memWrite_same_value {m : Memory} (h : m.wf = true) (a x : Nat) :
    memRead (memWrite m a (memRead m a)) x = memRead m x := by
  rw [memRead_memWrite h]; split
  · rename_i e; rw [e]
  · rfl

end Sys2Proof.Machine
end

