-- ==== Sys2Proof/Laws/Access.lean ====
section
/-! SUPPORT. Which fields each shared operation leaves as they are, one lemma per field; proofs cite
these and never unfold the operation. -/

namespace Sys2Proof.Machine

/-! ### loadByte -/

@[simp] theorem State.loadByte_regs (s : State) (a : Addr) : ((s.loadByte a).2).regs = s.regs := by
  unfold State.loadByte; split <;> rfl
@[simp] theorem State.loadByte_pc (s : State) (a : Addr) : ((s.loadByte a).2).pc = s.pc := by
  unfold State.loadByte; split <;> rfl
@[simp] theorem State.loadByte_psr (s : State) (a : Addr) : ((s.loadByte a).2).psr = s.psr := by
  unfold State.loadByte; split <;> rfl
@[simp] theorem State.loadByte_isp (s : State) (a : Addr) : ((s.loadByte a).2).isp = s.isp := by
  unfold State.loadByte; split <;> rfl
@[simp] theorem State.loadByte_intbase (s : State) (a : Addr) : ((s.loadByte a).2).intbase = s.intbase := by
  unfold State.loadByte; split <;> rfl
@[simp] theorem State.loadByte_cfg (s : State) (a : Addr) : ((s.loadByte a).2).cfg = s.cfg := by
  unfold State.loadByte; split <;> rfl
@[simp] theorem State.loadByte_dcr (s : State) (a : Addr) : ((s.loadByte a).2).dcr = s.dcr := by
  unfold State.loadByte; split <;> rfl
@[simp] theorem State.loadByte_dsr (s : State) (a : Addr) : ((s.loadByte a).2).dsr = s.dsr := by
  unfold State.loadByte; split <;> rfl
@[simp] theorem State.loadByte_car (s : State) (a : Addr) : ((s.loadByte a).2).car = s.car := by
  unfold State.loadByte; split <;> rfl
@[simp] theorem State.loadByte_dbgPending (s : State) (a : Addr) : ((s.loadByte a).2).dbgPending = s.dbgPending := by
  unfold State.loadByte; split <;> rfl
@[simp] theorem State.loadByte_opState (s : State) (a : Addr) : ((s.loadByte a).2).opState = s.opState := by
  unfold State.loadByte; split <;> rfl
@[simp] theorem State.loadByte_mem (s : State) (a : Addr) : ((s.loadByte a).2).mem = s.mem := by
  unfold State.loadByte; split <;> rfl
@[simp] theorem State.loadByte_stale (s : State) (a : Addr) : ((s.loadByte a).2).stale = s.stale := by
  unfold State.loadByte; split <;> rfl
@[simp] theorem State.loadByte_pins (s : State) (a : Addr) : ((s.loadByte a).2).pins = s.pins := by
  unfold State.loadByte; split <;> rfl
@[simp] theorem State.loadByte_pinsAhead (s : State) (a : Addr) : ((s.loadByte a).2).pinsAhead = s.pinsAhead := by
  unfold State.loadByte; split <;> rfl
@[simp] theorem State.loadByte_platform (s : State) (a : Addr) : ((s.loadByte a).2).platform = s.platform := by
  unfold State.loadByte; split <;> rfl
@[simp] theorem State.loadByte_written (s : State) (a : Addr) : ((s.loadByte a).2).written = s.written := by
  unfold State.loadByte; split <;> rfl
@[simp] theorem State.loadByte_reg (s : State) (a : Addr) (x : Reg) : ((s.loadByte a).2).reg x = s.reg x := by
  simp [State.reg]
@[simp] theorem State.loadByte_flag (s : State) (a : Addr) (j : Nat) : ((s.loadByte a).2).flag j = s.flag j := by
  simp [State.flag]
@[simp] theorem State.loadByte_cfgEd (s : State) (a : Addr) : ((s.loadByte a).2).cfgEd = s.cfgEd := by
  simp [State.cfgEd]
@[simp] theorem State.loadByte_kindAt (s : State) (a : Addr) (x : Addr) : ((s.loadByte a).2).kindAt x = s.kindAt x := by
  simp [State.kindAt]

/-! ### storeByte -/

@[simp] theorem State.storeByte_regs (s : State) (a : Addr) (v : Byte) : (s.storeByte a v).regs = s.regs := by
  unfold State.storeByte; split <;> rfl
@[simp] theorem State.storeByte_pc (s : State) (a : Addr) (v : Byte) : (s.storeByte a v).pc = s.pc := by
  unfold State.storeByte; split <;> rfl
@[simp] theorem State.storeByte_psr (s : State) (a : Addr) (v : Byte) : (s.storeByte a v).psr = s.psr := by
  unfold State.storeByte; split <;> rfl
@[simp] theorem State.storeByte_isp (s : State) (a : Addr) (v : Byte) : (s.storeByte a v).isp = s.isp := by
  unfold State.storeByte; split <;> rfl
@[simp] theorem State.storeByte_intbase (s : State) (a : Addr) (v : Byte) : (s.storeByte a v).intbase = s.intbase := by
  unfold State.storeByte; split <;> rfl
@[simp] theorem State.storeByte_cfg (s : State) (a : Addr) (v : Byte) : (s.storeByte a v).cfg = s.cfg := by
  unfold State.storeByte; split <;> rfl
@[simp] theorem State.storeByte_dcr (s : State) (a : Addr) (v : Byte) : (s.storeByte a v).dcr = s.dcr := by
  unfold State.storeByte; split <;> rfl
@[simp] theorem State.storeByte_dsr (s : State) (a : Addr) (v : Byte) : (s.storeByte a v).dsr = s.dsr := by
  unfold State.storeByte; split <;> rfl
@[simp] theorem State.storeByte_car (s : State) (a : Addr) (v : Byte) : (s.storeByte a v).car = s.car := by
  unfold State.storeByte; split <;> rfl
@[simp] theorem State.storeByte_dbgPending (s : State) (a : Addr) (v : Byte) : (s.storeByte a v).dbgPending = s.dbgPending := by
  unfold State.storeByte; split <;> rfl
@[simp] theorem State.storeByte_opState (s : State) (a : Addr) (v : Byte) : (s.storeByte a v).opState = s.opState := by
  unfold State.storeByte; split <;> rfl
@[simp] theorem State.storeByte_pins (s : State) (a : Addr) (v : Byte) : (s.storeByte a v).pins = s.pins := by
  unfold State.storeByte; split <;> rfl
@[simp] theorem State.storeByte_pinsAhead (s : State) (a : Addr) (v : Byte) : (s.storeByte a v).pinsAhead = s.pinsAhead := by
  unfold State.storeByte; split <;> rfl
@[simp] theorem State.storeByte_platform (s : State) (a : Addr) (v : Byte) : (s.storeByte a v).platform = s.platform := by
  unfold State.storeByte; split <;> rfl
@[simp] theorem State.storeByte_fresh (s : State) (a : Addr) (v : Byte) : (s.storeByte a v).fresh = s.fresh := by
  unfold State.storeByte; split <;> rfl
@[simp] theorem State.storeByte_reg (s : State) (a : Addr) (v : Byte) (x : Reg) : (s.storeByte a v).reg x = s.reg x := by
  simp [State.reg]
@[simp] theorem State.storeByte_flag (s : State) (a : Addr) (v : Byte) (j : Nat) : (s.storeByte a v).flag j = s.flag j := by
  simp [State.flag]
@[simp] theorem State.storeByte_cfgEd (s : State) (a : Addr) (v : Byte) : (s.storeByte a v).cfgEd = s.cfgEd := by
  simp [State.cfgEd]
@[simp] theorem State.storeByte_kindAt (s : State) (a : Addr) (v : Byte) (x : Addr) : (s.storeByte a v).kindAt x = s.kindAt x := by
  simp [State.kindAt]

/-! ### noteAccess -/

@[simp] theorem State.noteAccess_regs (s : State) (k : AccessKind) (a : Addr) : (s.noteAccess k a).regs = s.regs := by
  unfold State.noteAccess; split <;> rfl
@[simp] theorem State.noteAccess_pc (s : State) (k : AccessKind) (a : Addr) : (s.noteAccess k a).pc = s.pc := by
  unfold State.noteAccess; split <;> rfl
@[simp] theorem State.noteAccess_psr (s : State) (k : AccessKind) (a : Addr) : (s.noteAccess k a).psr = s.psr := by
  unfold State.noteAccess; split <;> rfl
@[simp] theorem State.noteAccess_isp (s : State) (k : AccessKind) (a : Addr) : (s.noteAccess k a).isp = s.isp := by
  unfold State.noteAccess; split <;> rfl
@[simp] theorem State.noteAccess_intbase (s : State) (k : AccessKind) (a : Addr) : (s.noteAccess k a).intbase = s.intbase := by
  unfold State.noteAccess; split <;> rfl
@[simp] theorem State.noteAccess_cfg (s : State) (k : AccessKind) (a : Addr) : (s.noteAccess k a).cfg = s.cfg := by
  unfold State.noteAccess; split <;> rfl
@[simp] theorem State.noteAccess_car (s : State) (k : AccessKind) (a : Addr) : (s.noteAccess k a).car = s.car := by
  unfold State.noteAccess; split <;> rfl
@[simp] theorem State.noteAccess_opState (s : State) (k : AccessKind) (a : Addr) : (s.noteAccess k a).opState = s.opState := by
  unfold State.noteAccess; split <;> rfl
@[simp] theorem State.noteAccess_mem (s : State) (k : AccessKind) (a : Addr) : (s.noteAccess k a).mem = s.mem := by
  unfold State.noteAccess; split <;> rfl
@[simp] theorem State.noteAccess_stale (s : State) (k : AccessKind) (a : Addr) : (s.noteAccess k a).stale = s.stale := by
  unfold State.noteAccess; split <;> rfl
@[simp] theorem State.noteAccess_pins (s : State) (k : AccessKind) (a : Addr) : (s.noteAccess k a).pins = s.pins := by
  unfold State.noteAccess; split <;> rfl
@[simp] theorem State.noteAccess_pinsAhead (s : State) (k : AccessKind) (a : Addr) : (s.noteAccess k a).pinsAhead = s.pinsAhead := by
  unfold State.noteAccess; split <;> rfl
@[simp] theorem State.noteAccess_platform (s : State) (k : AccessKind) (a : Addr) : (s.noteAccess k a).platform = s.platform := by
  unfold State.noteAccess; split <;> rfl
@[simp] theorem State.noteAccess_written (s : State) (k : AccessKind) (a : Addr) : (s.noteAccess k a).written = s.written := by
  unfold State.noteAccess; split <;> rfl
@[simp] theorem State.noteAccess_fresh (s : State) (k : AccessKind) (a : Addr) : (s.noteAccess k a).fresh = s.fresh := by
  unfold State.noteAccess; split <;> rfl
@[simp] theorem State.noteAccess_reg (s : State) (k : AccessKind) (a : Addr) (x : Reg) : (s.noteAccess k a).reg x = s.reg x := by
  simp [State.reg]
@[simp] theorem State.noteAccess_flag (s : State) (k : AccessKind) (a : Addr) (j : Nat) : (s.noteAccess k a).flag j = s.flag j := by
  simp [State.flag]
@[simp] theorem State.noteAccess_cfgEd (s : State) (k : AccessKind) (a : Addr) : (s.noteAccess k a).cfgEd = s.cfgEd := by
  simp [State.cfgEd]
@[simp] theorem State.noteAccess_kindAt (s : State) (k : AccessKind) (a : Addr) (x : Addr) : (s.noteAccess k a).kindAt x = s.kindAt x := by
  simp [State.kindAt]

/-! ### readByte -/

@[simp] theorem State.readByte_regs (s : State) (a : Addr) : ((s.readByte a).2).regs = s.regs := by
  simp [State.readByte]
@[simp] theorem State.readByte_pc (s : State) (a : Addr) : ((s.readByte a).2).pc = s.pc := by
  simp [State.readByte]
@[simp] theorem State.readByte_psr (s : State) (a : Addr) : ((s.readByte a).2).psr = s.psr := by
  simp [State.readByte]
@[simp] theorem State.readByte_isp (s : State) (a : Addr) : ((s.readByte a).2).isp = s.isp := by
  simp [State.readByte]
@[simp] theorem State.readByte_intbase (s : State) (a : Addr) : ((s.readByte a).2).intbase = s.intbase := by
  simp [State.readByte]
@[simp] theorem State.readByte_cfg (s : State) (a : Addr) : ((s.readByte a).2).cfg = s.cfg := by
  simp [State.readByte]
@[simp] theorem State.readByte_car (s : State) (a : Addr) : ((s.readByte a).2).car = s.car := by
  simp [State.readByte]
@[simp] theorem State.readByte_opState (s : State) (a : Addr) : ((s.readByte a).2).opState = s.opState := by
  simp [State.readByte]
@[simp] theorem State.readByte_mem (s : State) (a : Addr) : ((s.readByte a).2).mem = s.mem := by
  simp [State.readByte]
@[simp] theorem State.readByte_stale (s : State) (a : Addr) : ((s.readByte a).2).stale = s.stale := by
  simp [State.readByte]
@[simp] theorem State.readByte_pins (s : State) (a : Addr) : ((s.readByte a).2).pins = s.pins := by
  simp [State.readByte]
@[simp] theorem State.readByte_pinsAhead (s : State) (a : Addr) : ((s.readByte a).2).pinsAhead = s.pinsAhead := by
  simp [State.readByte]
@[simp] theorem State.readByte_platform (s : State) (a : Addr) : ((s.readByte a).2).platform = s.platform := by
  simp [State.readByte]
@[simp] theorem State.readByte_written (s : State) (a : Addr) : ((s.readByte a).2).written = s.written := by
  simp [State.readByte]
@[simp] theorem State.readByte_reg (s : State) (a : Addr) (x : Reg) : ((s.readByte a).2).reg x = s.reg x := by
  simp [State.reg]
@[simp] theorem State.readByte_flag (s : State) (a : Addr) (j : Nat) : ((s.readByte a).2).flag j = s.flag j := by
  simp [State.flag]
@[simp] theorem State.readByte_cfgEd (s : State) (a : Addr) : ((s.readByte a).2).cfgEd = s.cfgEd := by
  simp [State.cfgEd]
@[simp] theorem State.readByte_kindAt (s : State) (a : Addr) (x : Addr) : ((s.readByte a).2).kindAt x = s.kindAt x := by
  simp [State.kindAt]

/-! ### readWord -/

@[simp] theorem State.readWord_regs (s : State) (a : Addr) : ((s.readWord a).2).regs = s.regs := by
  simp [State.readWord]
@[simp] theorem State.readWord_pc (s : State) (a : Addr) : ((s.readWord a).2).pc = s.pc := by
  simp [State.readWord]
@[simp] theorem State.readWord_psr (s : State) (a : Addr) : ((s.readWord a).2).psr = s.psr := by
  simp [State.readWord]
@[simp] theorem State.readWord_isp (s : State) (a : Addr) : ((s.readWord a).2).isp = s.isp := by
  simp [State.readWord]
@[simp] theorem State.readWord_intbase (s : State) (a : Addr) : ((s.readWord a).2).intbase = s.intbase := by
  simp [State.readWord]
@[simp] theorem State.readWord_cfg (s : State) (a : Addr) : ((s.readWord a).2).cfg = s.cfg := by
  simp [State.readWord]
@[simp] theorem State.readWord_car (s : State) (a : Addr) : ((s.readWord a).2).car = s.car := by
  simp [State.readWord]
@[simp] theorem State.readWord_opState (s : State) (a : Addr) : ((s.readWord a).2).opState = s.opState := by
  simp [State.readWord]
@[simp] theorem State.readWord_mem (s : State) (a : Addr) : ((s.readWord a).2).mem = s.mem := by
  simp [State.readWord]
@[simp] theorem State.readWord_stale (s : State) (a : Addr) : ((s.readWord a).2).stale = s.stale := by
  simp [State.readWord]
@[simp] theorem State.readWord_pins (s : State) (a : Addr) : ((s.readWord a).2).pins = s.pins := by
  simp [State.readWord]
@[simp] theorem State.readWord_pinsAhead (s : State) (a : Addr) : ((s.readWord a).2).pinsAhead = s.pinsAhead := by
  simp [State.readWord]
@[simp] theorem State.readWord_platform (s : State) (a : Addr) : ((s.readWord a).2).platform = s.platform := by
  simp [State.readWord]
@[simp] theorem State.readWord_written (s : State) (a : Addr) : ((s.readWord a).2).written = s.written := by
  simp [State.readWord]
@[simp] theorem State.readWord_reg (s : State) (a : Addr) (x : Reg) : ((s.readWord a).2).reg x = s.reg x := by
  simp [State.reg]
@[simp] theorem State.readWord_flag (s : State) (a : Addr) (j : Nat) : ((s.readWord a).2).flag j = s.flag j := by
  simp [State.flag]
@[simp] theorem State.readWord_cfgEd (s : State) (a : Addr) : ((s.readWord a).2).cfgEd = s.cfgEd := by
  simp [State.cfgEd]
@[simp] theorem State.readWord_kindAt (s : State) (a : Addr) (x : Addr) : ((s.readWord a).2).kindAt x = s.kindAt x := by
  simp [State.kindAt]

/-! ### writeByte -/

@[simp] theorem State.writeByte_regs (s : State) (a : Addr) (v : Byte) : (s.writeByte a v).regs = s.regs := by
  simp [State.writeByte]
@[simp] theorem State.writeByte_pc (s : State) (a : Addr) (v : Byte) : (s.writeByte a v).pc = s.pc := by
  simp [State.writeByte]
@[simp] theorem State.writeByte_psr (s : State) (a : Addr) (v : Byte) : (s.writeByte a v).psr = s.psr := by
  simp [State.writeByte]
@[simp] theorem State.writeByte_isp (s : State) (a : Addr) (v : Byte) : (s.writeByte a v).isp = s.isp := by
  simp [State.writeByte]
@[simp] theorem State.writeByte_intbase (s : State) (a : Addr) (v : Byte) : (s.writeByte a v).intbase = s.intbase := by
  simp [State.writeByte]
@[simp] theorem State.writeByte_cfg (s : State) (a : Addr) (v : Byte) : (s.writeByte a v).cfg = s.cfg := by
  simp [State.writeByte]
@[simp] theorem State.writeByte_car (s : State) (a : Addr) (v : Byte) : (s.writeByte a v).car = s.car := by
  simp [State.writeByte]
@[simp] theorem State.writeByte_opState (s : State) (a : Addr) (v : Byte) : (s.writeByte a v).opState = s.opState := by
  simp [State.writeByte]
@[simp] theorem State.writeByte_pins (s : State) (a : Addr) (v : Byte) : (s.writeByte a v).pins = s.pins := by
  simp [State.writeByte]
@[simp] theorem State.writeByte_pinsAhead (s : State) (a : Addr) (v : Byte) : (s.writeByte a v).pinsAhead = s.pinsAhead := by
  simp [State.writeByte]
@[simp] theorem State.writeByte_platform (s : State) (a : Addr) (v : Byte) : (s.writeByte a v).platform = s.platform := by
  simp [State.writeByte]
@[simp] theorem State.writeByte_fresh (s : State) (a : Addr) (v : Byte) : (s.writeByte a v).fresh = s.fresh := by
  simp [State.writeByte]
@[simp] theorem State.writeByte_reg (s : State) (a : Addr) (v : Byte) (x : Reg) : (s.writeByte a v).reg x = s.reg x := by
  simp [State.reg]
@[simp] theorem State.writeByte_flag (s : State) (a : Addr) (v : Byte) (j : Nat) : (s.writeByte a v).flag j = s.flag j := by
  simp [State.flag]
@[simp] theorem State.writeByte_cfgEd (s : State) (a : Addr) (v : Byte) : (s.writeByte a v).cfgEd = s.cfgEd := by
  simp [State.cfgEd]
@[simp] theorem State.writeByte_kindAt (s : State) (a : Addr) (v : Byte) (x : Addr) : (s.writeByte a v).kindAt x = s.kindAt x := by
  simp [State.kindAt]

/-! ### writeWord -/

@[simp] theorem State.writeWord_regs (s : State) (a : Addr) (v : Word) : (s.writeWord a v).regs = s.regs := by
  simp [State.writeWord]
@[simp] theorem State.writeWord_pc (s : State) (a : Addr) (v : Word) : (s.writeWord a v).pc = s.pc := by
  simp [State.writeWord]
@[simp] theorem State.writeWord_psr (s : State) (a : Addr) (v : Word) : (s.writeWord a v).psr = s.psr := by
  simp [State.writeWord]
@[simp] theorem State.writeWord_isp (s : State) (a : Addr) (v : Word) : (s.writeWord a v).isp = s.isp := by
  simp [State.writeWord]
@[simp] theorem State.writeWord_intbase (s : State) (a : Addr) (v : Word) : (s.writeWord a v).intbase = s.intbase := by
  simp [State.writeWord]
@[simp] theorem State.writeWord_cfg (s : State) (a : Addr) (v : Word) : (s.writeWord a v).cfg = s.cfg := by
  simp [State.writeWord]
@[simp] theorem State.writeWord_car (s : State) (a : Addr) (v : Word) : (s.writeWord a v).car = s.car := by
  simp [State.writeWord]
@[simp] theorem State.writeWord_opState (s : State) (a : Addr) (v : Word) : (s.writeWord a v).opState = s.opState := by
  simp [State.writeWord]
@[simp] theorem State.writeWord_pins (s : State) (a : Addr) (v : Word) : (s.writeWord a v).pins = s.pins := by
  simp [State.writeWord]
@[simp] theorem State.writeWord_pinsAhead (s : State) (a : Addr) (v : Word) : (s.writeWord a v).pinsAhead = s.pinsAhead := by
  simp [State.writeWord]
@[simp] theorem State.writeWord_platform (s : State) (a : Addr) (v : Word) : (s.writeWord a v).platform = s.platform := by
  simp [State.writeWord]
@[simp] theorem State.writeWord_fresh (s : State) (a : Addr) (v : Word) : (s.writeWord a v).fresh = s.fresh := by
  simp [State.writeWord]
@[simp] theorem State.writeWord_reg (s : State) (a : Addr) (v : Word) (x : Reg) : (s.writeWord a v).reg x = s.reg x := by
  simp [State.reg]
@[simp] theorem State.writeWord_flag (s : State) (a : Addr) (v : Word) (j : Nat) : (s.writeWord a v).flag j = s.flag j := by
  simp [State.flag]
@[simp] theorem State.writeWord_cfgEd (s : State) (a : Addr) (v : Word) : (s.writeWord a v).cfgEd = s.cfgEd := by
  simp [State.cfgEd]
@[simp] theorem State.writeWord_kindAt (s : State) (a : Addr) (v : Word) (x : Addr) : (s.writeWord a v).kindAt x = s.kindAt x := by
  simp [State.kindAt]

/-! ### storeWords -/

@[simp] theorem State.storeWords_regs (s : State) (a : Word) (vs : List Word) : (s.storeWords a vs).regs = s.regs := by
  induction vs generalizing s a with
  | nil => rfl
  | cons v vs ih => rw [State.storeWords, ih]; simp
@[simp] theorem State.storeWords_pc (s : State) (a : Word) (vs : List Word) : (s.storeWords a vs).pc = s.pc := by
  induction vs generalizing s a with
  | nil => rfl
  | cons v vs ih => rw [State.storeWords, ih]; simp
@[simp] theorem State.storeWords_psr (s : State) (a : Word) (vs : List Word) : (s.storeWords a vs).psr = s.psr := by
  induction vs generalizing s a with
  | nil => rfl
  | cons v vs ih => rw [State.storeWords, ih]; simp
@[simp] theorem State.storeWords_isp (s : State) (a : Word) (vs : List Word) : (s.storeWords a vs).isp = s.isp := by
  induction vs generalizing s a with
  | nil => rfl
  | cons v vs ih => rw [State.storeWords, ih]; simp
@[simp] theorem State.storeWords_intbase (s : State) (a : Word) (vs : List Word) : (s.storeWords a vs).intbase = s.intbase := by
  induction vs generalizing s a with
  | nil => rfl
  | cons v vs ih => rw [State.storeWords, ih]; simp
@[simp] theorem State.storeWords_cfg (s : State) (a : Word) (vs : List Word) : (s.storeWords a vs).cfg = s.cfg := by
  induction vs generalizing s a with
  | nil => rfl
  | cons v vs ih => rw [State.storeWords, ih]; simp
@[simp] theorem State.storeWords_car (s : State) (a : Word) (vs : List Word) : (s.storeWords a vs).car = s.car := by
  induction vs generalizing s a with
  | nil => rfl
  | cons v vs ih => rw [State.storeWords, ih]; simp
@[simp] theorem State.storeWords_opState (s : State) (a : Word) (vs : List Word) : (s.storeWords a vs).opState = s.opState := by
  induction vs generalizing s a with
  | nil => rfl
  | cons v vs ih => rw [State.storeWords, ih]; simp
@[simp] theorem State.storeWords_pins (s : State) (a : Word) (vs : List Word) : (s.storeWords a vs).pins = s.pins := by
  induction vs generalizing s a with
  | nil => rfl
  | cons v vs ih => rw [State.storeWords, ih]; simp
@[simp] theorem State.storeWords_pinsAhead (s : State) (a : Word) (vs : List Word) : (s.storeWords a vs).pinsAhead = s.pinsAhead := by
  induction vs generalizing s a with
  | nil => rfl
  | cons v vs ih => rw [State.storeWords, ih]; simp
@[simp] theorem State.storeWords_platform (s : State) (a : Word) (vs : List Word) : (s.storeWords a vs).platform = s.platform := by
  induction vs generalizing s a with
  | nil => rfl
  | cons v vs ih => rw [State.storeWords, ih]; simp
@[simp] theorem State.storeWords_fresh (s : State) (a : Word) (vs : List Word) : (s.storeWords a vs).fresh = s.fresh := by
  induction vs generalizing s a with
  | nil => rfl
  | cons v vs ih => rw [State.storeWords, ih]; simp
@[simp] theorem State.storeWords_reg (s : State) (a : Word) (vs : List Word) (x : Reg) : (s.storeWords a vs).reg x = s.reg x := by
  simp [State.reg]
@[simp] theorem State.storeWords_flag (s : State) (a : Word) (vs : List Word) (j : Nat) : (s.storeWords a vs).flag j = s.flag j := by
  simp [State.flag]
@[simp] theorem State.storeWords_cfgEd (s : State) (a : Word) (vs : List Word) : (s.storeWords a vs).cfgEd = s.cfgEd := by
  simp [State.cfgEd]
@[simp] theorem State.storeWords_kindAt (s : State) (a : Word) (vs : List Word) (x : Addr) : (s.storeWords a vs).kindAt x = s.kindAt x := by
  simp [State.kindAt]

/-! ### loadRegs -/

@[simp] theorem State.loadRegs_pc (s : State) (a : Word) (rs : List Reg) : (s.loadRegs a rs).pc = s.pc := by
  induction rs generalizing s a with
  | nil => rfl
  | cons r rs ih => rw [State.loadRegs, ih]; simp
@[simp] theorem State.loadRegs_psr (s : State) (a : Word) (rs : List Reg) : (s.loadRegs a rs).psr = s.psr := by
  induction rs generalizing s a with
  | nil => rfl
  | cons r rs ih => rw [State.loadRegs, ih]; simp
@[simp] theorem State.loadRegs_isp (s : State) (a : Word) (rs : List Reg) : (s.loadRegs a rs).isp = s.isp := by
  induction rs generalizing s a with
  | nil => rfl
  | cons r rs ih => rw [State.loadRegs, ih]; simp
@[simp] theorem State.loadRegs_intbase (s : State) (a : Word) (rs : List Reg) : (s.loadRegs a rs).intbase = s.intbase := by
  induction rs generalizing s a with
  | nil => rfl
  | cons r rs ih => rw [State.loadRegs, ih]; simp
@[simp] theorem State.loadRegs_cfg (s : State) (a : Word) (rs : List Reg) : (s.loadRegs a rs).cfg = s.cfg := by
  induction rs generalizing s a with
  | nil => rfl
  | cons r rs ih => rw [State.loadRegs, ih]; simp
@[simp] theorem State.loadRegs_car (s : State) (a : Word) (rs : List Reg) : (s.loadRegs a rs).car = s.car := by
  induction rs generalizing s a with
  | nil => rfl
  | cons r rs ih => rw [State.loadRegs, ih]; simp
@[simp] theorem State.loadRegs_opState (s : State) (a : Word) (rs : List Reg) : (s.loadRegs a rs).opState = s.opState := by
  induction rs generalizing s a with
  | nil => rfl
  | cons r rs ih => rw [State.loadRegs, ih]; simp
@[simp] theorem State.loadRegs_mem (s : State) (a : Word) (rs : List Reg) : (s.loadRegs a rs).mem = s.mem := by
  induction rs generalizing s a with
  | nil => rfl
  | cons r rs ih => rw [State.loadRegs, ih]; simp
@[simp] theorem State.loadRegs_stale (s : State) (a : Word) (rs : List Reg) : (s.loadRegs a rs).stale = s.stale := by
  induction rs generalizing s a with
  | nil => rfl
  | cons r rs ih => rw [State.loadRegs, ih]; simp
@[simp] theorem State.loadRegs_pins (s : State) (a : Word) (rs : List Reg) : (s.loadRegs a rs).pins = s.pins := by
  induction rs generalizing s a with
  | nil => rfl
  | cons r rs ih => rw [State.loadRegs, ih]; simp
@[simp] theorem State.loadRegs_pinsAhead (s : State) (a : Word) (rs : List Reg) : (s.loadRegs a rs).pinsAhead = s.pinsAhead := by
  induction rs generalizing s a with
  | nil => rfl
  | cons r rs ih => rw [State.loadRegs, ih]; simp
@[simp] theorem State.loadRegs_platform (s : State) (a : Word) (rs : List Reg) : (s.loadRegs a rs).platform = s.platform := by
  induction rs generalizing s a with
  | nil => rfl
  | cons r rs ih => rw [State.loadRegs, ih]; simp
@[simp] theorem State.loadRegs_written (s : State) (a : Word) (rs : List Reg) : (s.loadRegs a rs).written = s.written := by
  induction rs generalizing s a with
  | nil => rfl
  | cons r rs ih => rw [State.loadRegs, ih]; simp
@[simp] theorem State.loadRegs_flag (s : State) (a : Word) (rs : List Reg) (j : Nat) : (s.loadRegs a rs).flag j = s.flag j := by
  simp [State.flag]
@[simp] theorem State.loadRegs_cfgEd (s : State) (a : Word) (rs : List Reg) : (s.loadRegs a rs).cfgEd = s.cfgEd := by
  simp [State.cfgEd]
@[simp] theorem State.loadRegs_kindAt (s : State) (a : Word) (rs : List Reg) (x : Addr) : (s.loadRegs a rs).kindAt x = s.kindAt x := by
  simp [State.kindAt]

/-! ### freeRegs -/

@[simp] theorem State.freeRegs_pc (s : State) (rs : List Reg) : (s.freeRegs rs).pc = s.pc := by
  induction rs generalizing s with
  | nil => rfl
  | cons r rs ih => rw [State.freeRegs, ih]; simp
@[simp] theorem State.freeRegs_psr (s : State) (rs : List Reg) : (s.freeRegs rs).psr = s.psr := by
  induction rs generalizing s with
  | nil => rfl
  | cons r rs ih => rw [State.freeRegs, ih]; simp
@[simp] theorem State.freeRegs_isp (s : State) (rs : List Reg) : (s.freeRegs rs).isp = s.isp := by
  induction rs generalizing s with
  | nil => rfl
  | cons r rs ih => rw [State.freeRegs, ih]; simp
@[simp] theorem State.freeRegs_intbase (s : State) (rs : List Reg) : (s.freeRegs rs).intbase = s.intbase := by
  induction rs generalizing s with
  | nil => rfl
  | cons r rs ih => rw [State.freeRegs, ih]; simp
@[simp] theorem State.freeRegs_cfg (s : State) (rs : List Reg) : (s.freeRegs rs).cfg = s.cfg := by
  induction rs generalizing s with
  | nil => rfl
  | cons r rs ih => rw [State.freeRegs, ih]; simp
@[simp] theorem State.freeRegs_dcr (s : State) (rs : List Reg) : (s.freeRegs rs).dcr = s.dcr := by
  induction rs generalizing s with
  | nil => rfl
  | cons r rs ih => rw [State.freeRegs, ih]; simp
@[simp] theorem State.freeRegs_dsr (s : State) (rs : List Reg) : (s.freeRegs rs).dsr = s.dsr := by
  induction rs generalizing s with
  | nil => rfl
  | cons r rs ih => rw [State.freeRegs, ih]; simp
@[simp] theorem State.freeRegs_car (s : State) (rs : List Reg) : (s.freeRegs rs).car = s.car := by
  induction rs generalizing s with
  | nil => rfl
  | cons r rs ih => rw [State.freeRegs, ih]; simp
@[simp] theorem State.freeRegs_dbgPending (s : State) (rs : List Reg) : (s.freeRegs rs).dbgPending = s.dbgPending := by
  induction rs generalizing s with
  | nil => rfl
  | cons r rs ih => rw [State.freeRegs, ih]; simp
@[simp] theorem State.freeRegs_opState (s : State) (rs : List Reg) : (s.freeRegs rs).opState = s.opState := by
  induction rs generalizing s with
  | nil => rfl
  | cons r rs ih => rw [State.freeRegs, ih]; simp
@[simp] theorem State.freeRegs_mem (s : State) (rs : List Reg) : (s.freeRegs rs).mem = s.mem := by
  induction rs generalizing s with
  | nil => rfl
  | cons r rs ih => rw [State.freeRegs, ih]; simp
@[simp] theorem State.freeRegs_stale (s : State) (rs : List Reg) : (s.freeRegs rs).stale = s.stale := by
  induction rs generalizing s with
  | nil => rfl
  | cons r rs ih => rw [State.freeRegs, ih]; simp
@[simp] theorem State.freeRegs_pins (s : State) (rs : List Reg) : (s.freeRegs rs).pins = s.pins := by
  induction rs generalizing s with
  | nil => rfl
  | cons r rs ih => rw [State.freeRegs, ih]; simp
@[simp] theorem State.freeRegs_pinsAhead (s : State) (rs : List Reg) : (s.freeRegs rs).pinsAhead = s.pinsAhead := by
  induction rs generalizing s with
  | nil => rfl
  | cons r rs ih => rw [State.freeRegs, ih]; simp
@[simp] theorem State.freeRegs_platform (s : State) (rs : List Reg) : (s.freeRegs rs).platform = s.platform := by
  induction rs generalizing s with
  | nil => rfl
  | cons r rs ih => rw [State.freeRegs, ih]; simp
@[simp] theorem State.freeRegs_written (s : State) (rs : List Reg) : (s.freeRegs rs).written = s.written := by
  induction rs generalizing s with
  | nil => rfl
  | cons r rs ih => rw [State.freeRegs, ih]; simp
@[simp] theorem State.freeRegs_flag (s : State) (rs : List Reg) (j : Nat) : (s.freeRegs rs).flag j = s.flag j := by
  simp [State.flag]
@[simp] theorem State.freeRegs_cfgEd (s : State) (rs : List Reg) : (s.freeRegs rs).cfgEd = s.cfgEd := by
  simp [State.cfgEd]
@[simp] theorem State.freeRegs_kindAt (s : State) (rs : List Reg) (x : Addr) : (s.freeRegs rs).kindAt x = s.kindAt x := by
  simp [State.kindAt]

/-! ### drawWords -/

@[simp] theorem State.drawWords_regs (s : State) (n : Nat) : (s.drawWords n).2.regs = s.regs := by
  induction n generalizing s with
  | zero => rfl
  | succ n ih => rw [State.drawWords]; simp [ih]
@[simp] theorem State.drawWords_pc (s : State) (n : Nat) : (s.drawWords n).2.pc = s.pc := by
  induction n generalizing s with
  | zero => rfl
  | succ n ih => rw [State.drawWords]; simp [ih]
@[simp] theorem State.drawWords_psr (s : State) (n : Nat) : (s.drawWords n).2.psr = s.psr := by
  induction n generalizing s with
  | zero => rfl
  | succ n ih => rw [State.drawWords]; simp [ih]
@[simp] theorem State.drawWords_isp (s : State) (n : Nat) : (s.drawWords n).2.isp = s.isp := by
  induction n generalizing s with
  | zero => rfl
  | succ n ih => rw [State.drawWords]; simp [ih]
@[simp] theorem State.drawWords_intbase (s : State) (n : Nat) : (s.drawWords n).2.intbase = s.intbase := by
  induction n generalizing s with
  | zero => rfl
  | succ n ih => rw [State.drawWords]; simp [ih]
@[simp] theorem State.drawWords_cfg (s : State) (n : Nat) : (s.drawWords n).2.cfg = s.cfg := by
  induction n generalizing s with
  | zero => rfl
  | succ n ih => rw [State.drawWords]; simp [ih]
@[simp] theorem State.drawWords_dcr (s : State) (n : Nat) : (s.drawWords n).2.dcr = s.dcr := by
  induction n generalizing s with
  | zero => rfl
  | succ n ih => rw [State.drawWords]; simp [ih]
@[simp] theorem State.drawWords_dsr (s : State) (n : Nat) : (s.drawWords n).2.dsr = s.dsr := by
  induction n generalizing s with
  | zero => rfl
  | succ n ih => rw [State.drawWords]; simp [ih]
@[simp] theorem State.drawWords_car (s : State) (n : Nat) : (s.drawWords n).2.car = s.car := by
  induction n generalizing s with
  | zero => rfl
  | succ n ih => rw [State.drawWords]; simp [ih]
@[simp] theorem State.drawWords_dbgPending (s : State) (n : Nat) : (s.drawWords n).2.dbgPending = s.dbgPending := by
  induction n generalizing s with
  | zero => rfl
  | succ n ih => rw [State.drawWords]; simp [ih]
@[simp] theorem State.drawWords_opState (s : State) (n : Nat) : (s.drawWords n).2.opState = s.opState := by
  induction n generalizing s with
  | zero => rfl
  | succ n ih => rw [State.drawWords]; simp [ih]
@[simp] theorem State.drawWords_mem (s : State) (n : Nat) : (s.drawWords n).2.mem = s.mem := by
  induction n generalizing s with
  | zero => rfl
  | succ n ih => rw [State.drawWords]; simp [ih]
@[simp] theorem State.drawWords_stale (s : State) (n : Nat) : (s.drawWords n).2.stale = s.stale := by
  induction n generalizing s with
  | zero => rfl
  | succ n ih => rw [State.drawWords]; simp [ih]
@[simp] theorem State.drawWords_pins (s : State) (n : Nat) : (s.drawWords n).2.pins = s.pins := by
  induction n generalizing s with
  | zero => rfl
  | succ n ih => rw [State.drawWords]; simp [ih]
@[simp] theorem State.drawWords_pinsAhead (s : State) (n : Nat) : (s.drawWords n).2.pinsAhead = s.pinsAhead := by
  induction n generalizing s with
  | zero => rfl
  | succ n ih => rw [State.drawWords]; simp [ih]
@[simp] theorem State.drawWords_platform (s : State) (n : Nat) : (s.drawWords n).2.platform = s.platform := by
  induction n generalizing s with
  | zero => rfl
  | succ n ih => rw [State.drawWords]; simp [ih]
@[simp] theorem State.drawWords_written (s : State) (n : Nat) : (s.drawWords n).2.written = s.written := by
  induction n generalizing s with
  | zero => rfl
  | succ n ih => rw [State.drawWords]; simp [ih]
@[simp] theorem State.drawWords_reg (s : State) (n : Nat) (x : Reg) : ((s.drawWords n).2).reg x = s.reg x := by
  simp [State.reg]
@[simp] theorem State.drawWords_flag (s : State) (n : Nat) (j : Nat) : ((s.drawWords n).2).flag j = s.flag j := by
  simp [State.flag]
@[simp] theorem State.drawWords_cfgEd (s : State) (n : Nat) : ((s.drawWords n).2).cfgEd = s.cfgEd := by
  simp [State.cfgEd]
@[simp] theorem State.drawWords_kindAt (s : State) (n : Nat) (x : Addr) : ((s.drawWords n).2).kindAt x = s.kindAt x := by
  simp [State.kindAt]

/-! ### storeFree -/

@[simp] theorem State.storeFree_regs (s : State) (a : Word) (n : Nat) : (s.storeFree a n).regs = s.regs := by
  simp [State.storeFree]
@[simp] theorem State.storeFree_pc (s : State) (a : Word) (n : Nat) : (s.storeFree a n).pc = s.pc := by
  simp [State.storeFree]
@[simp] theorem State.storeFree_psr (s : State) (a : Word) (n : Nat) : (s.storeFree a n).psr = s.psr := by
  simp [State.storeFree]
@[simp] theorem State.storeFree_isp (s : State) (a : Word) (n : Nat) : (s.storeFree a n).isp = s.isp := by
  simp [State.storeFree]
@[simp] theorem State.storeFree_intbase (s : State) (a : Word) (n : Nat) : (s.storeFree a n).intbase = s.intbase := by
  simp [State.storeFree]
@[simp] theorem State.storeFree_cfg (s : State) (a : Word) (n : Nat) : (s.storeFree a n).cfg = s.cfg := by
  simp [State.storeFree]
@[simp] theorem State.storeFree_car (s : State) (a : Word) (n : Nat) : (s.storeFree a n).car = s.car := by
  simp [State.storeFree]
@[simp] theorem State.storeFree_opState (s : State) (a : Word) (n : Nat) : (s.storeFree a n).opState = s.opState := by
  simp [State.storeFree]
@[simp] theorem State.storeFree_pins (s : State) (a : Word) (n : Nat) : (s.storeFree a n).pins = s.pins := by
  simp [State.storeFree]
@[simp] theorem State.storeFree_pinsAhead (s : State) (a : Word) (n : Nat) : (s.storeFree a n).pinsAhead = s.pinsAhead := by
  simp [State.storeFree]
@[simp] theorem State.storeFree_platform (s : State) (a : Word) (n : Nat) : (s.storeFree a n).platform = s.platform := by
  simp [State.storeFree]
@[simp] theorem State.storeFree_reg (s : State) (a : Word) (n : Nat) (x : Reg) : (s.storeFree a n).reg x = s.reg x := by
  simp [State.reg]
@[simp] theorem State.storeFree_flag (s : State) (a : Word) (n : Nat) (j : Nat) : (s.storeFree a n).flag j = s.flag j := by
  simp [State.flag]
@[simp] theorem State.storeFree_cfgEd (s : State) (a : Word) (n : Nat) : (s.storeFree a n).cfgEd = s.cfgEd := by
  simp [State.cfgEd]
@[simp] theorem State.storeFree_kindAt (s : State) (a : Word) (n : Nat) (x : Addr) : (s.storeFree a n).kindAt x = s.kindAt x := by
  simp [State.kindAt]

/-! ### freeByteAt -/

@[simp] theorem State.freeByteAt_regs (s : State) (a : Addr) : (s.freeByteAt a).regs = s.regs := by
  simp [State.freeByteAt]
@[simp] theorem State.freeByteAt_pc (s : State) (a : Addr) : (s.freeByteAt a).pc = s.pc := by
  simp [State.freeByteAt]
@[simp] theorem State.freeByteAt_psr (s : State) (a : Addr) : (s.freeByteAt a).psr = s.psr := by
  simp [State.freeByteAt]
@[simp] theorem State.freeByteAt_isp (s : State) (a : Addr) : (s.freeByteAt a).isp = s.isp := by
  simp [State.freeByteAt]
@[simp] theorem State.freeByteAt_intbase (s : State) (a : Addr) : (s.freeByteAt a).intbase = s.intbase := by
  simp [State.freeByteAt]
@[simp] theorem State.freeByteAt_cfg (s : State) (a : Addr) : (s.freeByteAt a).cfg = s.cfg := by
  simp [State.freeByteAt]
@[simp] theorem State.freeByteAt_dcr (s : State) (a : Addr) : (s.freeByteAt a).dcr = s.dcr := by
  simp [State.freeByteAt]
@[simp] theorem State.freeByteAt_dsr (s : State) (a : Addr) : (s.freeByteAt a).dsr = s.dsr := by
  simp [State.freeByteAt]
@[simp] theorem State.freeByteAt_car (s : State) (a : Addr) : (s.freeByteAt a).car = s.car := by
  simp [State.freeByteAt]
@[simp] theorem State.freeByteAt_dbgPending (s : State) (a : Addr) : (s.freeByteAt a).dbgPending = s.dbgPending := by
  simp [State.freeByteAt]
@[simp] theorem State.freeByteAt_opState (s : State) (a : Addr) : (s.freeByteAt a).opState = s.opState := by
  simp [State.freeByteAt]
@[simp] theorem State.freeByteAt_pins (s : State) (a : Addr) : (s.freeByteAt a).pins = s.pins := by
  simp [State.freeByteAt]
@[simp] theorem State.freeByteAt_pinsAhead (s : State) (a : Addr) : (s.freeByteAt a).pinsAhead = s.pinsAhead := by
  simp [State.freeByteAt]
@[simp] theorem State.freeByteAt_platform (s : State) (a : Addr) : (s.freeByteAt a).platform = s.platform := by
  simp [State.freeByteAt]
@[simp] theorem State.freeByteAt_reg (s : State) (a : Addr) (x : Reg) : (s.freeByteAt a).reg x = s.reg x := by
  simp [State.reg]
@[simp] theorem State.freeByteAt_flag (s : State) (a : Addr) (j : Nat) : (s.freeByteAt a).flag j = s.flag j := by
  simp [State.flag]
@[simp] theorem State.freeByteAt_cfgEd (s : State) (a : Addr) : (s.freeByteAt a).cfgEd = s.cfgEd := by
  simp [State.cfgEd]
@[simp] theorem State.freeByteAt_kindAt (s : State) (a : Addr) (x : Addr) : (s.freeByteAt a).kindAt x = s.kindAt x := by
  simp [State.kindAt]

/-! ### freeWords -/

@[simp] theorem State.freeWords_regs (s : State) (a : Word) (n : Nat) : (s.freeWords a n).regs = s.regs := by
  induction n generalizing s a with
  | zero => rfl
  | succ n ih => rw [State.freeWords, ih]; simp
@[simp] theorem State.freeWords_pc (s : State) (a : Word) (n : Nat) : (s.freeWords a n).pc = s.pc := by
  induction n generalizing s a with
  | zero => rfl
  | succ n ih => rw [State.freeWords, ih]; simp
@[simp] theorem State.freeWords_psr (s : State) (a : Word) (n : Nat) : (s.freeWords a n).psr = s.psr := by
  induction n generalizing s a with
  | zero => rfl
  | succ n ih => rw [State.freeWords, ih]; simp
@[simp] theorem State.freeWords_isp (s : State) (a : Word) (n : Nat) : (s.freeWords a n).isp = s.isp := by
  induction n generalizing s a with
  | zero => rfl
  | succ n ih => rw [State.freeWords, ih]; simp
@[simp] theorem State.freeWords_intbase (s : State) (a : Word) (n : Nat) : (s.freeWords a n).intbase = s.intbase := by
  induction n generalizing s a with
  | zero => rfl
  | succ n ih => rw [State.freeWords, ih]; simp
@[simp] theorem State.freeWords_cfg (s : State) (a : Word) (n : Nat) : (s.freeWords a n).cfg = s.cfg := by
  induction n generalizing s a with
  | zero => rfl
  | succ n ih => rw [State.freeWords, ih]; simp
@[simp] theorem State.freeWords_dcr (s : State) (a : Word) (n : Nat) : (s.freeWords a n).dcr = s.dcr := by
  induction n generalizing s a with
  | zero => rfl
  | succ n ih => rw [State.freeWords, ih]; simp
@[simp] theorem State.freeWords_dsr (s : State) (a : Word) (n : Nat) : (s.freeWords a n).dsr = s.dsr := by
  induction n generalizing s a with
  | zero => rfl
  | succ n ih => rw [State.freeWords, ih]; simp
@[simp] theorem State.freeWords_car (s : State) (a : Word) (n : Nat) : (s.freeWords a n).car = s.car := by
  induction n generalizing s a with
  | zero => rfl
  | succ n ih => rw [State.freeWords, ih]; simp
@[simp] theorem State.freeWords_dbgPending (s : State) (a : Word) (n : Nat) : (s.freeWords a n).dbgPending = s.dbgPending := by
  induction n generalizing s a with
  | zero => rfl
  | succ n ih => rw [State.freeWords, ih]; simp
@[simp] theorem State.freeWords_opState (s : State) (a : Word) (n : Nat) : (s.freeWords a n).opState = s.opState := by
  induction n generalizing s a with
  | zero => rfl
  | succ n ih => rw [State.freeWords, ih]; simp
@[simp] theorem State.freeWords_pins (s : State) (a : Word) (n : Nat) : (s.freeWords a n).pins = s.pins := by
  induction n generalizing s a with
  | zero => rfl
  | succ n ih => rw [State.freeWords, ih]; simp
@[simp] theorem State.freeWords_pinsAhead (s : State) (a : Word) (n : Nat) : (s.freeWords a n).pinsAhead = s.pinsAhead := by
  induction n generalizing s a with
  | zero => rfl
  | succ n ih => rw [State.freeWords, ih]; simp
@[simp] theorem State.freeWords_platform (s : State) (a : Word) (n : Nat) : (s.freeWords a n).platform = s.platform := by
  induction n generalizing s a with
  | zero => rfl
  | succ n ih => rw [State.freeWords, ih]; simp
@[simp] theorem State.freeWords_reg (s : State) (a : Word) (n : Nat) (x : Reg) : (s.freeWords a n).reg x = s.reg x := by
  simp [State.reg]
@[simp] theorem State.freeWords_flag (s : State) (a : Word) (n : Nat) (j : Nat) : (s.freeWords a n).flag j = s.flag j := by
  simp [State.flag]
@[simp] theorem State.freeWords_cfgEd (s : State) (a : Word) (n : Nat) : (s.freeWords a n).cfgEd = s.cfgEd := by
  simp [State.cfgEd]
@[simp] theorem State.freeWords_kindAt (s : State) (a : Word) (n : Nat) (x : Addr) : (s.freeWords a n).kindAt x = s.kindAt x := by
  simp [State.kindAt]

/-! ### pushFrame -/

@[simp] theorem State.pushFrame_regs (s : State) (spc : Addr) : (s.pushFrame spc).regs = s.regs := by
  rw [State.pushFrame, State.writeWord_regs, State.writeWord_regs, State.setIsp_regs]
@[simp] theorem State.pushFrame_pc (s : State) (spc : Addr) : (s.pushFrame spc).pc = s.pc := by
  rw [State.pushFrame, State.writeWord_pc, State.writeWord_pc, State.setIsp_pc]
@[simp] theorem State.pushFrame_psr (s : State) (spc : Addr) : (s.pushFrame spc).psr = s.psr := by
  rw [State.pushFrame, State.writeWord_psr, State.writeWord_psr, State.setIsp_psr]
@[simp] theorem State.pushFrame_intbase (s : State) (spc : Addr) : (s.pushFrame spc).intbase = s.intbase := by
  rw [State.pushFrame, State.writeWord_intbase, State.writeWord_intbase, State.setIsp_intbase]
@[simp] theorem State.pushFrame_cfg (s : State) (spc : Addr) : (s.pushFrame spc).cfg = s.cfg := by
  rw [State.pushFrame, State.writeWord_cfg, State.writeWord_cfg, State.setIsp_cfg]
@[simp] theorem State.pushFrame_car (s : State) (spc : Addr) : (s.pushFrame spc).car = s.car := by
  rw [State.pushFrame, State.writeWord_car, State.writeWord_car, State.setIsp_car]
@[simp] theorem State.pushFrame_opState (s : State) (spc : Addr) : (s.pushFrame spc).opState = s.opState := by
  rw [State.pushFrame, State.writeWord_opState, State.writeWord_opState, State.setIsp_opState]
@[simp] theorem State.pushFrame_pins (s : State) (spc : Addr) : (s.pushFrame spc).pins = s.pins := by
  rw [State.pushFrame, State.writeWord_pins, State.writeWord_pins, State.setIsp_pins]
@[simp] theorem State.pushFrame_pinsAhead (s : State) (spc : Addr) : (s.pushFrame spc).pinsAhead = s.pinsAhead := by
  rw [State.pushFrame, State.writeWord_pinsAhead, State.writeWord_pinsAhead, State.setIsp_pinsAhead]
@[simp] theorem State.pushFrame_platform (s : State) (spc : Addr) : (s.pushFrame spc).platform = s.platform := by
  rw [State.pushFrame, State.writeWord_platform, State.writeWord_platform, State.setIsp_platform]
@[simp] theorem State.pushFrame_fresh (s : State) (spc : Addr) : (s.pushFrame spc).fresh = s.fresh := by
  rw [State.pushFrame, State.writeWord_fresh, State.writeWord_fresh, State.setIsp_fresh]
@[simp] theorem State.pushFrame_reg (s : State) (spc : Addr) (x : Reg) : (s.pushFrame spc).reg x = s.reg x := by
  simp [State.reg]
@[simp] theorem State.pushFrame_flag (s : State) (spc : Addr) (j : Nat) : (s.pushFrame spc).flag j = s.flag j := by
  simp [State.flag]
@[simp] theorem State.pushFrame_cfgEd (s : State) (spc : Addr) : (s.pushFrame spc).cfgEd = s.cfgEd := by
  simp [State.cfgEd]
@[simp] theorem State.pushFrame_kindAt (s : State) (spc : Addr) (x : Addr) : (s.pushFrame spc).kindAt x = s.kindAt x := by
  simp [State.kindAt]

/-! ### settleDebug -/

@[simp] theorem State.settleDebug_regs (s : State) (e : Exception) : (s.settleDebug e).regs = s.regs := by
  cases e <;> try rfl
  unfold State.settleDebug; simp only []; split <;> rfl
@[simp] theorem State.settleDebug_pc (s : State) (e : Exception) : (s.settleDebug e).pc = s.pc := by
  cases e <;> try rfl
  unfold State.settleDebug; simp only []; split <;> rfl
@[simp] theorem State.settleDebug_psr (s : State) (e : Exception) : (s.settleDebug e).psr = s.psr := by
  cases e <;> try rfl
  unfold State.settleDebug; simp only []; split <;> rfl
@[simp] theorem State.settleDebug_isp (s : State) (e : Exception) : (s.settleDebug e).isp = s.isp := by
  cases e <;> try rfl
  unfold State.settleDebug; simp only []; split <;> rfl
@[simp] theorem State.settleDebug_intbase (s : State) (e : Exception) : (s.settleDebug e).intbase = s.intbase := by
  cases e <;> try rfl
  unfold State.settleDebug; simp only []; split <;> rfl
@[simp] theorem State.settleDebug_cfg (s : State) (e : Exception) : (s.settleDebug e).cfg = s.cfg := by
  cases e <;> try rfl
  unfold State.settleDebug; simp only []; split <;> rfl
@[simp] theorem State.settleDebug_car (s : State) (e : Exception) : (s.settleDebug e).car = s.car := by
  cases e <;> try rfl
  unfold State.settleDebug; simp only []; split <;> rfl
@[simp] theorem State.settleDebug_opState (s : State) (e : Exception) : (s.settleDebug e).opState = s.opState := by
  cases e <;> try rfl
  unfold State.settleDebug; simp only []; split <;> rfl
@[simp] theorem State.settleDebug_mem (s : State) (e : Exception) : (s.settleDebug e).mem = s.mem := by
  cases e <;> try rfl
  unfold State.settleDebug; simp only []; split <;> rfl
@[simp] theorem State.settleDebug_stale (s : State) (e : Exception) : (s.settleDebug e).stale = s.stale := by
  cases e <;> try rfl
  unfold State.settleDebug; simp only []; split <;> rfl
@[simp] theorem State.settleDebug_pins (s : State) (e : Exception) : (s.settleDebug e).pins = s.pins := by
  cases e <;> try rfl
  unfold State.settleDebug; simp only []; split <;> rfl
@[simp] theorem State.settleDebug_pinsAhead (s : State) (e : Exception) : (s.settleDebug e).pinsAhead = s.pinsAhead := by
  cases e <;> try rfl
  unfold State.settleDebug; simp only []; split <;> rfl
@[simp] theorem State.settleDebug_platform (s : State) (e : Exception) : (s.settleDebug e).platform = s.platform := by
  cases e <;> try rfl
  unfold State.settleDebug; simp only []; split <;> rfl
@[simp] theorem State.settleDebug_written (s : State) (e : Exception) : (s.settleDebug e).written = s.written := by
  cases e <;> try rfl
  unfold State.settleDebug; simp only []; split <;> rfl
@[simp] theorem State.settleDebug_fresh (s : State) (e : Exception) : (s.settleDebug e).fresh = s.fresh := by
  cases e <;> try rfl
  unfold State.settleDebug; simp only []; split <;> rfl
@[simp] theorem State.settleDebug_reg (s : State) (e : Exception) (x : Reg) : (s.settleDebug e).reg x = s.reg x := by
  simp [State.reg]
@[simp] theorem State.settleDebug_flag (s : State) (e : Exception) (j : Nat) : (s.settleDebug e).flag j = s.flag j := by
  simp [State.flag]
@[simp] theorem State.settleDebug_cfgEd (s : State) (e : Exception) : (s.settleDebug e).cfgEd = s.cfgEd := by
  simp [State.cfgEd]
@[simp] theorem State.settleDebug_kindAt (s : State) (e : Exception) (x : Addr) : (s.settleDebug e).kindAt x = s.kindAt x := by
  simp [State.kindAt]

/-! ### acknowledge -/

@[simp] theorem State.acknowledge_regs (s : State) (e : Exception) : (s.acknowledge e).regs = s.regs := by
  unfold State.acknowledge; split
  · rfl
  · cases e <;> simp
@[simp] theorem State.acknowledge_pc (s : State) (e : Exception) : (s.acknowledge e).pc = s.pc := by
  unfold State.acknowledge; split
  · rfl
  · cases e <;> simp
@[simp] theorem State.acknowledge_psr (s : State) (e : Exception) : (s.acknowledge e).psr = s.psr := by
  unfold State.acknowledge; split
  · rfl
  · cases e <;> simp
@[simp] theorem State.acknowledge_isp (s : State) (e : Exception) : (s.acknowledge e).isp = s.isp := by
  unfold State.acknowledge; split
  · rfl
  · cases e <;> simp
@[simp] theorem State.acknowledge_intbase (s : State) (e : Exception) : (s.acknowledge e).intbase = s.intbase := by
  unfold State.acknowledge; split
  · rfl
  · cases e <;> simp
@[simp] theorem State.acknowledge_cfg (s : State) (e : Exception) : (s.acknowledge e).cfg = s.cfg := by
  unfold State.acknowledge; split
  · rfl
  · cases e <;> simp
@[simp] theorem State.acknowledge_car (s : State) (e : Exception) : (s.acknowledge e).car = s.car := by
  unfold State.acknowledge; split
  · rfl
  · cases e <;> simp
@[simp] theorem State.acknowledge_opState (s : State) (e : Exception) : (s.acknowledge e).opState = s.opState := by
  unfold State.acknowledge; split
  · rfl
  · cases e <;> simp
@[simp] theorem State.acknowledge_mem (s : State) (e : Exception) : (s.acknowledge e).mem = s.mem := by
  unfold State.acknowledge; split
  · rfl
  · cases e <;> simp
@[simp] theorem State.acknowledge_stale (s : State) (e : Exception) : (s.acknowledge e).stale = s.stale := by
  unfold State.acknowledge; split
  · rfl
  · cases e <;> simp
@[simp] theorem State.acknowledge_pins (s : State) (e : Exception) : (s.acknowledge e).pins = s.pins := by
  unfold State.acknowledge; split
  · rfl
  · cases e <;> simp
@[simp] theorem State.acknowledge_pinsAhead (s : State) (e : Exception) : (s.acknowledge e).pinsAhead = s.pinsAhead := by
  unfold State.acknowledge; split
  · rfl
  · cases e <;> simp
@[simp] theorem State.acknowledge_platform (s : State) (e : Exception) : (s.acknowledge e).platform = s.platform := by
  unfold State.acknowledge; split
  · rfl
  · cases e <;> simp
@[simp] theorem State.acknowledge_written (s : State) (e : Exception) : (s.acknowledge e).written = s.written := by
  unfold State.acknowledge; split
  · rfl
  · cases e <;> simp
@[simp] theorem State.acknowledge_reg (s : State) (e : Exception) (x : Reg) : (s.acknowledge e).reg x = s.reg x := by
  simp [State.reg]
@[simp] theorem State.acknowledge_flag (s : State) (e : Exception) (j : Nat) : (s.acknowledge e).flag j = s.flag j := by
  simp [State.flag]
@[simp] theorem State.acknowledge_cfgEd (s : State) (e : Exception) : (s.acknowledge e).cfgEd = s.cfgEd := by
  simp [State.cfgEd]
@[simp] theorem State.acknowledge_kindAt (s : State) (e : Exception) (x : Addr) : (s.acknowledge e).kindAt x = s.kindAt x := by
  simp [State.kindAt]

/-! ### readHandler -/

@[simp] theorem State.readHandler_regs (s : State) (e : Exception) : ((s.readHandler e).2).regs = s.regs := by
  unfold State.readHandler; simp only []; split <;> simp
@[simp] theorem State.readHandler_pc (s : State) (e : Exception) : ((s.readHandler e).2).pc = s.pc := by
  unfold State.readHandler; simp only []; split <;> simp
@[simp] theorem State.readHandler_psr (s : State) (e : Exception) : ((s.readHandler e).2).psr = s.psr := by
  unfold State.readHandler; simp only []; split <;> simp
@[simp] theorem State.readHandler_isp (s : State) (e : Exception) : ((s.readHandler e).2).isp = s.isp := by
  unfold State.readHandler; simp only []; split <;> simp
@[simp] theorem State.readHandler_intbase (s : State) (e : Exception) : ((s.readHandler e).2).intbase = s.intbase := by
  unfold State.readHandler; simp only []; split <;> simp
@[simp] theorem State.readHandler_cfg (s : State) (e : Exception) : ((s.readHandler e).2).cfg = s.cfg := by
  unfold State.readHandler; simp only []; split <;> simp
@[simp] theorem State.readHandler_car (s : State) (e : Exception) : ((s.readHandler e).2).car = s.car := by
  unfold State.readHandler; simp only []; split <;> simp
@[simp] theorem State.readHandler_opState (s : State) (e : Exception) : ((s.readHandler e).2).opState = s.opState := by
  unfold State.readHandler; simp only []; split <;> simp
@[simp] theorem State.readHandler_mem (s : State) (e : Exception) : ((s.readHandler e).2).mem = s.mem := by
  unfold State.readHandler; simp only []; split <;> simp
@[simp] theorem State.readHandler_stale (s : State) (e : Exception) : ((s.readHandler e).2).stale = s.stale := by
  unfold State.readHandler; simp only []; split <;> simp
@[simp] theorem State.readHandler_pins (s : State) (e : Exception) : ((s.readHandler e).2).pins = s.pins := by
  unfold State.readHandler; simp only []; split <;> simp
@[simp] theorem State.readHandler_pinsAhead (s : State) (e : Exception) : ((s.readHandler e).2).pinsAhead = s.pinsAhead := by
  unfold State.readHandler; simp only []; split <;> simp
@[simp] theorem State.readHandler_platform (s : State) (e : Exception) : ((s.readHandler e).2).platform = s.platform := by
  unfold State.readHandler; simp only []; split <;> simp
@[simp] theorem State.readHandler_written (s : State) (e : Exception) : ((s.readHandler e).2).written = s.written := by
  unfold State.readHandler; simp only []; split <;> simp
@[simp] theorem State.readHandler_reg (s : State) (e : Exception) (x : Reg) : ((s.readHandler e).2).reg x = s.reg x := by
  simp [State.reg]
@[simp] theorem State.readHandler_flag (s : State) (e : Exception) (j : Nat) : ((s.readHandler e).2).flag j = s.flag j := by
  simp [State.flag]
@[simp] theorem State.readHandler_cfgEd (s : State) (e : Exception) : ((s.readHandler e).2).cfgEd = s.cfgEd := by
  simp [State.cfgEd]
@[simp] theorem State.readHandler_kindAt (s : State) (e : Exception) (x : Addr) : ((s.readHandler e).2).kindAt x = s.kindAt x := by
  simp [State.kindAt]

/-! ### saveContext -/

@[simp] theorem State.saveContext_regs (s : State) (e : Exception) (spc : Addr) : (s.saveContext e spc).regs = s.regs := by
  simp [State.saveContext]
@[simp] theorem State.saveContext_pc (s : State) (e : Exception) (spc : Addr) : (s.saveContext e spc).pc = s.pc := by
  simp [State.saveContext]
@[simp] theorem State.saveContext_intbase (s : State) (e : Exception) (spc : Addr) : (s.saveContext e spc).intbase = s.intbase := by
  simp [State.saveContext]
@[simp] theorem State.saveContext_cfg (s : State) (e : Exception) (spc : Addr) : (s.saveContext e spc).cfg = s.cfg := by
  simp [State.saveContext]
@[simp] theorem State.saveContext_car (s : State) (e : Exception) (spc : Addr) : (s.saveContext e spc).car = s.car := by
  simp [State.saveContext]
@[simp] theorem State.saveContext_opState (s : State) (e : Exception) (spc : Addr) : (s.saveContext e spc).opState = s.opState := by
  simp [State.saveContext]
@[simp] theorem State.saveContext_pins (s : State) (e : Exception) (spc : Addr) : (s.saveContext e spc).pins = s.pins := by
  simp [State.saveContext]
@[simp] theorem State.saveContext_pinsAhead (s : State) (e : Exception) (spc : Addr) : (s.saveContext e spc).pinsAhead = s.pinsAhead := by
  simp [State.saveContext]
@[simp] theorem State.saveContext_platform (s : State) (e : Exception) (spc : Addr) : (s.saveContext e spc).platform = s.platform := by
  simp [State.saveContext]
@[simp] theorem State.saveContext_fresh (s : State) (e : Exception) (spc : Addr) : (s.saveContext e spc).fresh = s.fresh := by
  simp [State.saveContext]
@[simp] theorem State.saveContext_reg (s : State) (e : Exception) (spc : Addr) (x : Reg) : (s.saveContext e spc).reg x = s.reg x := by
  simp [State.reg]
@[simp] theorem State.saveContext_cfgEd (s : State) (e : Exception) (spc : Addr) : (s.saveContext e spc).cfgEd = s.cfgEd := by
  simp [State.cfgEd]
@[simp] theorem State.saveContext_kindAt (s : State) (e : Exception) (spc : Addr) (x : Addr) : (s.saveContext e spc).kindAt x = s.kindAt x := by
  simp [State.kindAt]

/-! ### takeException -/

@[simp] theorem State.takeException_regs (s : State) (e : Exception) (spc : Addr) : (s.takeException e spc).regs = s.regs := by
  simp [State.takeException]
@[simp] theorem State.takeException_intbase (s : State) (e : Exception) (spc : Addr) : (s.takeException e spc).intbase = s.intbase := by
  simp [State.takeException]
@[simp] theorem State.takeException_cfg (s : State) (e : Exception) (spc : Addr) : (s.takeException e spc).cfg = s.cfg := by
  simp [State.takeException]
@[simp] theorem State.takeException_car (s : State) (e : Exception) (spc : Addr) : (s.takeException e spc).car = s.car := by
  simp [State.takeException]
@[simp] theorem State.takeException_pins (s : State) (e : Exception) (spc : Addr) : (s.takeException e spc).pins = s.pins := by
  simp [State.takeException]
@[simp] theorem State.takeException_pinsAhead (s : State) (e : Exception) (spc : Addr) : (s.takeException e spc).pinsAhead = s.pinsAhead := by
  simp [State.takeException]
@[simp] theorem State.takeException_platform (s : State) (e : Exception) (spc : Addr) : (s.takeException e spc).platform = s.platform := by
  simp [State.takeException]
@[simp] theorem State.takeException_reg (s : State) (e : Exception) (spc : Addr) (x : Reg) : (s.takeException e spc).reg x = s.reg x := by
  simp [State.reg]
@[simp] theorem State.takeException_cfgEd (s : State) (e : Exception) (spc : Addr) : (s.takeException e spc).cfgEd = s.cfgEd := by
  simp [State.cfgEd]
@[simp] theorem State.takeException_kindAt (s : State) (e : Exception) (spc : Addr) (x : Addr) : (s.takeException e spc).kindAt x = s.kindAt x := by
  simp [State.kindAt]

/-! ### suspendMultiply -/

@[simp] theorem State.suspendMultiply_regs (s : State) (e : Exception) : (s.suspendMultiply e).regs = s.regs := by
  simp [State.suspendMultiply]
@[simp] theorem State.suspendMultiply_intbase (s : State) (e : Exception) : (s.suspendMultiply e).intbase = s.intbase := by
  simp [State.suspendMultiply]
@[simp] theorem State.suspendMultiply_cfg (s : State) (e : Exception) : (s.suspendMultiply e).cfg = s.cfg := by
  simp [State.suspendMultiply]
@[simp] theorem State.suspendMultiply_car (s : State) (e : Exception) : (s.suspendMultiply e).car = s.car := by
  simp [State.suspendMultiply]
@[simp] theorem State.suspendMultiply_pins (s : State) (e : Exception) : (s.suspendMultiply e).pins = s.pins := by
  simp [State.suspendMultiply]
@[simp] theorem State.suspendMultiply_pinsAhead (s : State) (e : Exception) : (s.suspendMultiply e).pinsAhead = s.pinsAhead := by
  simp [State.suspendMultiply]
@[simp] theorem State.suspendMultiply_platform (s : State) (e : Exception) : (s.suspendMultiply e).platform = s.platform := by
  simp [State.suspendMultiply]
@[simp] theorem State.suspendMultiply_reg (s : State) (e : Exception) (x : Reg) : (s.suspendMultiply e).reg x = s.reg x := by
  simp [State.reg]
@[simp] theorem State.suspendMultiply_cfgEd (s : State) (e : Exception) : (s.suspendMultiply e).cfgEd = s.cfgEd := by
  simp [State.cfgEd]
@[simp] theorem State.suspendMultiply_kindAt (s : State) (e : Exception) (x : Addr) : (s.suspendMultiply e).kindAt x = s.kindAt x := by
  simp [State.kindAt]

/-! ### returnFromException -/

@[simp] theorem State.returnFromException_regs (s : State) : (s.returnFromException).regs = s.regs := by
  simp [State.returnFromException]
@[simp] theorem State.returnFromException_intbase (s : State) : (s.returnFromException).intbase = s.intbase := by
  simp [State.returnFromException]
@[simp] theorem State.returnFromException_cfg (s : State) : (s.returnFromException).cfg = s.cfg := by
  simp [State.returnFromException]
@[simp] theorem State.returnFromException_car (s : State) : (s.returnFromException).car = s.car := by
  simp [State.returnFromException]
@[simp] theorem State.returnFromException_opState (s : State) : (s.returnFromException).opState = s.opState := by
  simp [State.returnFromException]
@[simp] theorem State.returnFromException_mem (s : State) : (s.returnFromException).mem = s.mem := by
  simp [State.returnFromException]
@[simp] theorem State.returnFromException_pins (s : State) : (s.returnFromException).pins = s.pins := by
  simp [State.returnFromException]
@[simp] theorem State.returnFromException_pinsAhead (s : State) : (s.returnFromException).pinsAhead = s.pinsAhead := by
  simp [State.returnFromException]
@[simp] theorem State.returnFromException_platform (s : State) : (s.returnFromException).platform = s.platform := by
  simp [State.returnFromException]
@[simp] theorem State.returnFromException_written (s : State) : (s.returnFromException).written = s.written := by
  simp [State.returnFromException]
@[simp] theorem State.returnFromException_reg (s : State) (x : Reg) : (s.returnFromException).reg x = s.reg x := by
  simp [State.reg]
@[simp] theorem State.returnFromException_cfgEd (s : State) : (s.returnFromException).cfgEd = s.cfgEd := by
  simp [State.cfgEd]
@[simp] theorem State.returnFromException_kindAt (s : State) (x : Addr) : (s.returnFromException).kindAt x = s.kindAt x := by
  simp [State.kindAt]

/-! ### sample -/

@[simp] theorem State.sample_regs (s : State) : (s.sample).regs = s.regs := by
  unfold State.sample; split <;> rfl
@[simp] theorem State.sample_pc (s : State) : (s.sample).pc = s.pc := by
  unfold State.sample; split <;> rfl
@[simp] theorem State.sample_psr (s : State) : (s.sample).psr = s.psr := by
  unfold State.sample; split <;> rfl
@[simp] theorem State.sample_isp (s : State) : (s.sample).isp = s.isp := by
  unfold State.sample; split <;> rfl
@[simp] theorem State.sample_intbase (s : State) : (s.sample).intbase = s.intbase := by
  unfold State.sample; split <;> rfl
@[simp] theorem State.sample_cfg (s : State) : (s.sample).cfg = s.cfg := by
  unfold State.sample; split <;> rfl
@[simp] theorem State.sample_dcr (s : State) : (s.sample).dcr = s.dcr := by
  unfold State.sample; split <;> rfl
@[simp] theorem State.sample_dsr (s : State) : (s.sample).dsr = s.dsr := by
  unfold State.sample; split <;> rfl
@[simp] theorem State.sample_car (s : State) : (s.sample).car = s.car := by
  unfold State.sample; split <;> rfl
@[simp] theorem State.sample_dbgPending (s : State) : (s.sample).dbgPending = s.dbgPending := by
  unfold State.sample; split <;> rfl
@[simp] theorem State.sample_opState (s : State) : (s.sample).opState = s.opState := by
  unfold State.sample; split <;> rfl
@[simp] theorem State.sample_mem (s : State) : (s.sample).mem = s.mem := by
  unfold State.sample; split <;> rfl
@[simp] theorem State.sample_stale (s : State) : (s.sample).stale = s.stale := by
  unfold State.sample; split <;> rfl
@[simp] theorem State.sample_platform (s : State) : (s.sample).platform = s.platform := by
  unfold State.sample; split <;> rfl
@[simp] theorem State.sample_fresh (s : State) : (s.sample).fresh = s.fresh := by
  unfold State.sample; split <;> rfl
@[simp] theorem State.sample_reg (s : State) (x : Reg) : (s.sample).reg x = s.reg x := by
  simp [State.reg]
@[simp] theorem State.sample_flag (s : State) (j : Nat) : (s.sample).flag j = s.flag j := by
  simp [State.flag]
@[simp] theorem State.sample_cfgEd (s : State) : (s.sample).cfgEd = s.cfgEd := by
  simp [State.cfgEd]
@[simp] theorem State.sample_kindAt (s : State) (x : Addr) : (s.sample).kindAt x = s.kindAt x := by
  simp [State.kindAt]

/-! ### notePcMatch -/

@[simp] theorem State.notePcMatch_regs (s : State) : (s.notePcMatch).regs = s.regs := by
  unfold State.notePcMatch; split <;> rfl
@[simp] theorem State.notePcMatch_pc (s : State) : (s.notePcMatch).pc = s.pc := by
  unfold State.notePcMatch; split <;> rfl
@[simp] theorem State.notePcMatch_psr (s : State) : (s.notePcMatch).psr = s.psr := by
  unfold State.notePcMatch; split <;> rfl
@[simp] theorem State.notePcMatch_isp (s : State) : (s.notePcMatch).isp = s.isp := by
  unfold State.notePcMatch; split <;> rfl
@[simp] theorem State.notePcMatch_intbase (s : State) : (s.notePcMatch).intbase = s.intbase := by
  unfold State.notePcMatch; split <;> rfl
@[simp] theorem State.notePcMatch_cfg (s : State) : (s.notePcMatch).cfg = s.cfg := by
  unfold State.notePcMatch; split <;> rfl
@[simp] theorem State.notePcMatch_car (s : State) : (s.notePcMatch).car = s.car := by
  unfold State.notePcMatch; split <;> rfl
@[simp] theorem State.notePcMatch_opState (s : State) : (s.notePcMatch).opState = s.opState := by
  unfold State.notePcMatch; split <;> rfl
@[simp] theorem State.notePcMatch_mem (s : State) : (s.notePcMatch).mem = s.mem := by
  unfold State.notePcMatch; split <;> rfl
@[simp] theorem State.notePcMatch_stale (s : State) : (s.notePcMatch).stale = s.stale := by
  unfold State.notePcMatch; split <;> rfl
@[simp] theorem State.notePcMatch_pins (s : State) : (s.notePcMatch).pins = s.pins := by
  unfold State.notePcMatch; split <;> rfl
@[simp] theorem State.notePcMatch_pinsAhead (s : State) : (s.notePcMatch).pinsAhead = s.pinsAhead := by
  unfold State.notePcMatch; split <;> rfl
@[simp] theorem State.notePcMatch_platform (s : State) : (s.notePcMatch).platform = s.platform := by
  unfold State.notePcMatch; split <;> rfl
@[simp] theorem State.notePcMatch_written (s : State) : (s.notePcMatch).written = s.written := by
  unfold State.notePcMatch; split <;> rfl
@[simp] theorem State.notePcMatch_fresh (s : State) : (s.notePcMatch).fresh = s.fresh := by
  unfold State.notePcMatch; split <;> rfl
@[simp] theorem State.notePcMatch_reg (s : State) (x : Reg) : (s.notePcMatch).reg x = s.reg x := by
  simp [State.reg]
@[simp] theorem State.notePcMatch_flag (s : State) (j : Nat) : (s.notePcMatch).flag j = s.flag j := by
  simp [State.flag]
@[simp] theorem State.notePcMatch_cfgEd (s : State) : (s.notePcMatch).cfgEd = s.cfgEd := by
  simp [State.cfgEd]
@[simp] theorem State.notePcMatch_kindAt (s : State) (x : Addr) : (s.notePcMatch).kindAt x = s.kindAt x := by
  simp [State.kindAt]

/-! ### beginInstruction -/

@[simp] theorem State.beginInstruction_regs (s : State) : (s.beginInstruction).regs = s.regs := by
  simp [State.beginInstruction]
@[simp] theorem State.beginInstruction_pc (s : State) : (s.beginInstruction).pc = s.pc := by
  simp [State.beginInstruction]
@[simp] theorem State.beginInstruction_isp (s : State) : (s.beginInstruction).isp = s.isp := by
  simp [State.beginInstruction]
@[simp] theorem State.beginInstruction_intbase (s : State) : (s.beginInstruction).intbase = s.intbase := by
  simp [State.beginInstruction]
@[simp] theorem State.beginInstruction_cfg (s : State) : (s.beginInstruction).cfg = s.cfg := by
  simp [State.beginInstruction]
@[simp] theorem State.beginInstruction_car (s : State) : (s.beginInstruction).car = s.car := by
  simp [State.beginInstruction]
@[simp] theorem State.beginInstruction_opState (s : State) : (s.beginInstruction).opState = s.opState := by
  simp [State.beginInstruction]
@[simp] theorem State.beginInstruction_mem (s : State) : (s.beginInstruction).mem = s.mem := by
  simp [State.beginInstruction]
@[simp] theorem State.beginInstruction_stale (s : State) : (s.beginInstruction).stale = s.stale := by
  simp [State.beginInstruction]
@[simp] theorem State.beginInstruction_pins (s : State) : (s.beginInstruction).pins = s.pins := by
  simp [State.beginInstruction]
@[simp] theorem State.beginInstruction_pinsAhead (s : State) : (s.beginInstruction).pinsAhead = s.pinsAhead := by
  simp [State.beginInstruction]
@[simp] theorem State.beginInstruction_platform (s : State) : (s.beginInstruction).platform = s.platform := by
  simp [State.beginInstruction]
@[simp] theorem State.beginInstruction_written (s : State) : (s.beginInstruction).written = s.written := by
  simp [State.beginInstruction]
@[simp] theorem State.beginInstruction_fresh (s : State) : (s.beginInstruction).fresh = s.fresh := by
  simp [State.beginInstruction]
@[simp] theorem State.beginInstruction_reg (s : State) (x : Reg) : (s.beginInstruction).reg x = s.reg x := by
  simp [State.reg]
@[simp] theorem State.beginInstruction_cfgEd (s : State) : (s.beginInstruction).cfgEd = s.cfgEd := by
  simp [State.cfgEd]
@[simp] theorem State.beginInstruction_kindAt (s : State) (x : Addr) : (s.beginInstruction).kindAt x = s.kindAt x := by
  simp [State.kindAt]

/-! ### fetchByte -/

@[simp] theorem State.fetchByte_regs (s : State) (old : Bool) (a : Addr) : ((s.fetchByte old a).2).regs = s.regs := by
  unfold State.fetchByte; split <;> simp
@[simp] theorem State.fetchByte_pc (s : State) (old : Bool) (a : Addr) : ((s.fetchByte old a).2).pc = s.pc := by
  unfold State.fetchByte; split <;> simp
@[simp] theorem State.fetchByte_psr (s : State) (old : Bool) (a : Addr) : ((s.fetchByte old a).2).psr = s.psr := by
  unfold State.fetchByte; split <;> simp
@[simp] theorem State.fetchByte_isp (s : State) (old : Bool) (a : Addr) : ((s.fetchByte old a).2).isp = s.isp := by
  unfold State.fetchByte; split <;> simp
@[simp] theorem State.fetchByte_intbase (s : State) (old : Bool) (a : Addr) : ((s.fetchByte old a).2).intbase = s.intbase := by
  unfold State.fetchByte; split <;> simp
@[simp] theorem State.fetchByte_cfg (s : State) (old : Bool) (a : Addr) : ((s.fetchByte old a).2).cfg = s.cfg := by
  unfold State.fetchByte; split <;> simp
@[simp] theorem State.fetchByte_dcr (s : State) (old : Bool) (a : Addr) : ((s.fetchByte old a).2).dcr = s.dcr := by
  unfold State.fetchByte; split <;> simp
@[simp] theorem State.fetchByte_dsr (s : State) (old : Bool) (a : Addr) : ((s.fetchByte old a).2).dsr = s.dsr := by
  unfold State.fetchByte; split <;> simp
@[simp] theorem State.fetchByte_car (s : State) (old : Bool) (a : Addr) : ((s.fetchByte old a).2).car = s.car := by
  unfold State.fetchByte; split <;> simp
@[simp] theorem State.fetchByte_dbgPending (s : State) (old : Bool) (a : Addr) : ((s.fetchByte old a).2).dbgPending = s.dbgPending := by
  unfold State.fetchByte; split <;> simp
@[simp] theorem State.fetchByte_opState (s : State) (old : Bool) (a : Addr) : ((s.fetchByte old a).2).opState = s.opState := by
  unfold State.fetchByte; split <;> simp
@[simp] theorem State.fetchByte_mem (s : State) (old : Bool) (a : Addr) : ((s.fetchByte old a).2).mem = s.mem := by
  unfold State.fetchByte; split <;> simp
@[simp] theorem State.fetchByte_stale (s : State) (old : Bool) (a : Addr) : ((s.fetchByte old a).2).stale = s.stale := by
  unfold State.fetchByte; split <;> simp
@[simp] theorem State.fetchByte_pins (s : State) (old : Bool) (a : Addr) : ((s.fetchByte old a).2).pins = s.pins := by
  unfold State.fetchByte; split <;> simp
@[simp] theorem State.fetchByte_pinsAhead (s : State) (old : Bool) (a : Addr) : ((s.fetchByte old a).2).pinsAhead = s.pinsAhead := by
  unfold State.fetchByte; split <;> simp
@[simp] theorem State.fetchByte_platform (s : State) (old : Bool) (a : Addr) : ((s.fetchByte old a).2).platform = s.platform := by
  unfold State.fetchByte; split <;> simp
@[simp] theorem State.fetchByte_written (s : State) (old : Bool) (a : Addr) : ((s.fetchByte old a).2).written = s.written := by
  unfold State.fetchByte; split <;> simp
@[simp] theorem State.fetchByte_reg (s : State) (old : Bool) (a : Addr) (x : Reg) : ((s.fetchByte old a).2).reg x = s.reg x := by
  simp [State.reg]
@[simp] theorem State.fetchByte_flag (s : State) (old : Bool) (a : Addr) (j : Nat) : ((s.fetchByte old a).2).flag j = s.flag j := by
  simp [State.flag]
@[simp] theorem State.fetchByte_cfgEd (s : State) (old : Bool) (a : Addr) : ((s.fetchByte old a).2).cfgEd = s.cfgEd := by
  simp [State.cfgEd]
@[simp] theorem State.fetchByte_kindAt (s : State) (old : Bool) (a : Addr) (x : Addr) : ((s.fetchByte old a).2).kindAt x = s.kindAt x := by
  simp [State.kindAt]

/-! ### fetchChoice -/

@[simp] theorem State.fetchChoice_regs (s : State) (a : Addr) : ((s.fetchChoice a).2).regs = s.regs := by
  unfold State.fetchChoice; split <;> simp
@[simp] theorem State.fetchChoice_pc (s : State) (a : Addr) : ((s.fetchChoice a).2).pc = s.pc := by
  unfold State.fetchChoice; split <;> simp
@[simp] theorem State.fetchChoice_psr (s : State) (a : Addr) : ((s.fetchChoice a).2).psr = s.psr := by
  unfold State.fetchChoice; split <;> simp
@[simp] theorem State.fetchChoice_isp (s : State) (a : Addr) : ((s.fetchChoice a).2).isp = s.isp := by
  unfold State.fetchChoice; split <;> simp
@[simp] theorem State.fetchChoice_intbase (s : State) (a : Addr) : ((s.fetchChoice a).2).intbase = s.intbase := by
  unfold State.fetchChoice; split <;> simp
@[simp] theorem State.fetchChoice_cfg (s : State) (a : Addr) : ((s.fetchChoice a).2).cfg = s.cfg := by
  unfold State.fetchChoice; split <;> simp
@[simp] theorem State.fetchChoice_dcr (s : State) (a : Addr) : ((s.fetchChoice a).2).dcr = s.dcr := by
  unfold State.fetchChoice; split <;> simp
@[simp] theorem State.fetchChoice_dsr (s : State) (a : Addr) : ((s.fetchChoice a).2).dsr = s.dsr := by
  unfold State.fetchChoice; split <;> simp
@[simp] theorem State.fetchChoice_car (s : State) (a : Addr) : ((s.fetchChoice a).2).car = s.car := by
  unfold State.fetchChoice; split <;> simp
@[simp] theorem State.fetchChoice_dbgPending (s : State) (a : Addr) : ((s.fetchChoice a).2).dbgPending = s.dbgPending := by
  unfold State.fetchChoice; split <;> simp
@[simp] theorem State.fetchChoice_opState (s : State) (a : Addr) : ((s.fetchChoice a).2).opState = s.opState := by
  unfold State.fetchChoice; split <;> simp
@[simp] theorem State.fetchChoice_mem (s : State) (a : Addr) : ((s.fetchChoice a).2).mem = s.mem := by
  unfold State.fetchChoice; split <;> simp
@[simp] theorem State.fetchChoice_stale (s : State) (a : Addr) : ((s.fetchChoice a).2).stale = s.stale := by
  unfold State.fetchChoice; split <;> simp
@[simp] theorem State.fetchChoice_pins (s : State) (a : Addr) : ((s.fetchChoice a).2).pins = s.pins := by
  unfold State.fetchChoice; split <;> simp
@[simp] theorem State.fetchChoice_pinsAhead (s : State) (a : Addr) : ((s.fetchChoice a).2).pinsAhead = s.pinsAhead := by
  unfold State.fetchChoice; split <;> simp
@[simp] theorem State.fetchChoice_platform (s : State) (a : Addr) : ((s.fetchChoice a).2).platform = s.platform := by
  unfold State.fetchChoice; split <;> simp
@[simp] theorem State.fetchChoice_written (s : State) (a : Addr) : ((s.fetchChoice a).2).written = s.written := by
  unfold State.fetchChoice; split <;> simp
@[simp] theorem State.fetchChoice_reg (s : State) (a : Addr) (x : Reg) : ((s.fetchChoice a).2).reg x = s.reg x := by
  simp [State.reg]
@[simp] theorem State.fetchChoice_flag (s : State) (a : Addr) (j : Nat) : ((s.fetchChoice a).2).flag j = s.flag j := by
  simp [State.flag]
@[simp] theorem State.fetchChoice_cfgEd (s : State) (a : Addr) : ((s.fetchChoice a).2).cfgEd = s.cfgEd := by
  simp [State.cfgEd]
@[simp] theorem State.fetchChoice_kindAt (s : State) (a : Addr) (x : Addr) : ((s.fetchChoice a).2).kindAt x = s.kindAt x := by
  simp [State.kindAt]

/-! ### fetchWord -/

@[simp] theorem State.fetchWord_regs (s : State) (a : Addr) : ((s.fetchWord a).2).regs = s.regs := by
  simp [State.fetchWord]
@[simp] theorem State.fetchWord_pc (s : State) (a : Addr) : ((s.fetchWord a).2).pc = s.pc := by
  simp [State.fetchWord]
@[simp] theorem State.fetchWord_psr (s : State) (a : Addr) : ((s.fetchWord a).2).psr = s.psr := by
  simp [State.fetchWord]
@[simp] theorem State.fetchWord_isp (s : State) (a : Addr) : ((s.fetchWord a).2).isp = s.isp := by
  simp [State.fetchWord]
@[simp] theorem State.fetchWord_intbase (s : State) (a : Addr) : ((s.fetchWord a).2).intbase = s.intbase := by
  simp [State.fetchWord]
@[simp] theorem State.fetchWord_cfg (s : State) (a : Addr) : ((s.fetchWord a).2).cfg = s.cfg := by
  simp [State.fetchWord]
@[simp] theorem State.fetchWord_dcr (s : State) (a : Addr) : ((s.fetchWord a).2).dcr = s.dcr := by
  simp [State.fetchWord]
@[simp] theorem State.fetchWord_dsr (s : State) (a : Addr) : ((s.fetchWord a).2).dsr = s.dsr := by
  simp [State.fetchWord]
@[simp] theorem State.fetchWord_car (s : State) (a : Addr) : ((s.fetchWord a).2).car = s.car := by
  simp [State.fetchWord]
@[simp] theorem State.fetchWord_dbgPending (s : State) (a : Addr) : ((s.fetchWord a).2).dbgPending = s.dbgPending := by
  simp [State.fetchWord]
@[simp] theorem State.fetchWord_opState (s : State) (a : Addr) : ((s.fetchWord a).2).opState = s.opState := by
  simp [State.fetchWord]
@[simp] theorem State.fetchWord_mem (s : State) (a : Addr) : ((s.fetchWord a).2).mem = s.mem := by
  simp [State.fetchWord]
@[simp] theorem State.fetchWord_stale (s : State) (a : Addr) : ((s.fetchWord a).2).stale = s.stale := by
  simp [State.fetchWord]
@[simp] theorem State.fetchWord_pins (s : State) (a : Addr) : ((s.fetchWord a).2).pins = s.pins := by
  simp [State.fetchWord]
@[simp] theorem State.fetchWord_pinsAhead (s : State) (a : Addr) : ((s.fetchWord a).2).pinsAhead = s.pinsAhead := by
  simp [State.fetchWord]
@[simp] theorem State.fetchWord_platform (s : State) (a : Addr) : ((s.fetchWord a).2).platform = s.platform := by
  simp [State.fetchWord]
@[simp] theorem State.fetchWord_written (s : State) (a : Addr) : ((s.fetchWord a).2).written = s.written := by
  simp [State.fetchWord]
@[simp] theorem State.fetchWord_reg (s : State) (a : Addr) (x : Reg) : ((s.fetchWord a).2).reg x = s.reg x := by
  simp [State.reg]
@[simp] theorem State.fetchWord_flag (s : State) (a : Addr) (j : Nat) : ((s.fetchWord a).2).flag j = s.flag j := by
  simp [State.flag]
@[simp] theorem State.fetchWord_cfgEd (s : State) (a : Addr) : ((s.fetchWord a).2).cfgEd = s.cfgEd := by
  simp [State.cfgEd]
@[simp] theorem State.fetchWord_kindAt (s : State) (a : Addr) (x : Addr) : ((s.fetchWord a).2).kindAt x = s.kindAt x := by
  simp [State.kindAt]

/-! ### fetch -/

@[simp] theorem State.fetch_regs (s : State) : (s.fetch.2).regs = s.regs := by
  unfold State.fetch; simp only []; split <;> simp
@[simp] theorem State.fetch_pc (s : State) : (s.fetch.2).pc = s.pc := by
  unfold State.fetch; simp only []; split <;> simp
@[simp] theorem State.fetch_psr (s : State) : (s.fetch.2).psr = s.psr := by
  unfold State.fetch; simp only []; split <;> simp
@[simp] theorem State.fetch_isp (s : State) : (s.fetch.2).isp = s.isp := by
  unfold State.fetch; simp only []; split <;> simp
@[simp] theorem State.fetch_intbase (s : State) : (s.fetch.2).intbase = s.intbase := by
  unfold State.fetch; simp only []; split <;> simp
@[simp] theorem State.fetch_cfg (s : State) : (s.fetch.2).cfg = s.cfg := by
  unfold State.fetch; simp only []; split <;> simp
@[simp] theorem State.fetch_dcr (s : State) : (s.fetch.2).dcr = s.dcr := by
  unfold State.fetch; simp only []; split <;> simp
@[simp] theorem State.fetch_dsr (s : State) : (s.fetch.2).dsr = s.dsr := by
  unfold State.fetch; simp only []; split <;> simp
@[simp] theorem State.fetch_car (s : State) : (s.fetch.2).car = s.car := by
  unfold State.fetch; simp only []; split <;> simp
@[simp] theorem State.fetch_dbgPending (s : State) : (s.fetch.2).dbgPending = s.dbgPending := by
  unfold State.fetch; simp only []; split <;> simp
@[simp] theorem State.fetch_opState (s : State) : (s.fetch.2).opState = s.opState := by
  unfold State.fetch; simp only []; split <;> simp
@[simp] theorem State.fetch_mem (s : State) : (s.fetch.2).mem = s.mem := by
  unfold State.fetch; simp only []; split <;> simp
@[simp] theorem State.fetch_stale (s : State) : (s.fetch.2).stale = s.stale := by
  unfold State.fetch; simp only []; split <;> simp
@[simp] theorem State.fetch_pins (s : State) : (s.fetch.2).pins = s.pins := by
  unfold State.fetch; simp only []; split <;> simp
@[simp] theorem State.fetch_pinsAhead (s : State) : (s.fetch.2).pinsAhead = s.pinsAhead := by
  unfold State.fetch; simp only []; split <;> simp
@[simp] theorem State.fetch_platform (s : State) : (s.fetch.2).platform = s.platform := by
  unfold State.fetch; simp only []; split <;> simp
@[simp] theorem State.fetch_written (s : State) : (s.fetch.2).written = s.written := by
  unfold State.fetch; simp only []; split <;> simp
@[simp] theorem State.fetch_reg (s : State) (x : Reg) : (s.fetch.2).reg x = s.reg x := by
  simp [State.reg]
@[simp] theorem State.fetch_flag (s : State) (j : Nat) : (s.fetch.2).flag j = s.flag j := by
  simp [State.flag]
@[simp] theorem State.fetch_cfgEd (s : State) : (s.fetch.2).cfgEd = s.cfgEd := by
  simp [State.cfgEd]
@[simp] theorem State.fetch_kindAt (s : State) (x : Addr) : (s.fetch.2).kindAt x = s.kindAt x := by
  simp [State.kindAt]

/-! ### readReserved -/

@[simp] theorem State.readReserved_regs (s : State) (w m : Word) : ((s.readReserved w m).2).regs = s.regs := by
  rfl
@[simp] theorem State.readReserved_pc (s : State) (w m : Word) : ((s.readReserved w m).2).pc = s.pc := by
  rfl
@[simp] theorem State.readReserved_psr (s : State) (w m : Word) : ((s.readReserved w m).2).psr = s.psr := by
  rfl
@[simp] theorem State.readReserved_isp (s : State) (w m : Word) : ((s.readReserved w m).2).isp = s.isp := by
  rfl
@[simp] theorem State.readReserved_intbase (s : State) (w m : Word) : ((s.readReserved w m).2).intbase = s.intbase := by
  rfl
@[simp] theorem State.readReserved_cfg (s : State) (w m : Word) : ((s.readReserved w m).2).cfg = s.cfg := by
  rfl
@[simp] theorem State.readReserved_dcr (s : State) (w m : Word) : ((s.readReserved w m).2).dcr = s.dcr := by
  rfl
@[simp] theorem State.readReserved_dsr (s : State) (w m : Word) : ((s.readReserved w m).2).dsr = s.dsr := by
  rfl
@[simp] theorem State.readReserved_car (s : State) (w m : Word) : ((s.readReserved w m).2).car = s.car := by
  rfl
@[simp] theorem State.readReserved_dbgPending (s : State) (w m : Word) : ((s.readReserved w m).2).dbgPending = s.dbgPending := by
  rfl
@[simp] theorem State.readReserved_opState (s : State) (w m : Word) : ((s.readReserved w m).2).opState = s.opState := by
  rfl
@[simp] theorem State.readReserved_mem (s : State) (w m : Word) : ((s.readReserved w m).2).mem = s.mem := by
  rfl
@[simp] theorem State.readReserved_stale (s : State) (w m : Word) : ((s.readReserved w m).2).stale = s.stale := by
  rfl
@[simp] theorem State.readReserved_pins (s : State) (w m : Word) : ((s.readReserved w m).2).pins = s.pins := by
  rfl
@[simp] theorem State.readReserved_pinsAhead (s : State) (w m : Word) : ((s.readReserved w m).2).pinsAhead = s.pinsAhead := by
  rfl
@[simp] theorem State.readReserved_platform (s : State) (w m : Word) : ((s.readReserved w m).2).platform = s.platform := by
  rfl
@[simp] theorem State.readReserved_written (s : State) (w m : Word) : ((s.readReserved w m).2).written = s.written := by
  rfl
@[simp] theorem State.readReserved_reg (s : State) (w m : Word) (x : Reg) : ((s.readReserved w m).2).reg x = s.reg x := by
  simp [State.reg]
@[simp] theorem State.readReserved_flag (s : State) (w m : Word) (j : Nat) : ((s.readReserved w m).2).flag j = s.flag j := by
  simp [State.flag]
@[simp] theorem State.readReserved_cfgEd (s : State) (w m : Word) : ((s.readReserved w m).2).cfgEd = s.cfgEd := by
  simp [State.cfgEd]
@[simp] theorem State.readReserved_kindAt (s : State) (w m : Word) (x : Addr) : ((s.readReserved w m).2).kindAt x = s.kindAt x := by
  simp [State.kindAt]

/-! ### readProc -/

@[simp] theorem State.readProc_regs (s : State) (p : ProcReg) : ((s.readProc p).2).regs = s.regs := by
  cases p <;> rfl
@[simp] theorem State.readProc_pc (s : State) (p : ProcReg) : ((s.readProc p).2).pc = s.pc := by
  cases p <;> rfl
@[simp] theorem State.readProc_psr (s : State) (p : ProcReg) : ((s.readProc p).2).psr = s.psr := by
  cases p <;> rfl
@[simp] theorem State.readProc_isp (s : State) (p : ProcReg) : ((s.readProc p).2).isp = s.isp := by
  cases p <;> rfl
@[simp] theorem State.readProc_intbase (s : State) (p : ProcReg) : ((s.readProc p).2).intbase = s.intbase := by
  cases p <;> rfl
@[simp] theorem State.readProc_cfg (s : State) (p : ProcReg) : ((s.readProc p).2).cfg = s.cfg := by
  cases p <;> rfl
@[simp] theorem State.readProc_dcr (s : State) (p : ProcReg) : ((s.readProc p).2).dcr = s.dcr := by
  cases p <;> rfl
@[simp] theorem State.readProc_dsr (s : State) (p : ProcReg) : ((s.readProc p).2).dsr = s.dsr := by
  cases p <;> rfl
@[simp] theorem State.readProc_car (s : State) (p : ProcReg) : ((s.readProc p).2).car = s.car := by
  cases p <;> rfl
@[simp] theorem State.readProc_dbgPending (s : State) (p : ProcReg) : ((s.readProc p).2).dbgPending = s.dbgPending := by
  cases p <;> rfl
@[simp] theorem State.readProc_opState (s : State) (p : ProcReg) : ((s.readProc p).2).opState = s.opState := by
  cases p <;> rfl
@[simp] theorem State.readProc_mem (s : State) (p : ProcReg) : ((s.readProc p).2).mem = s.mem := by
  cases p <;> rfl
@[simp] theorem State.readProc_stale (s : State) (p : ProcReg) : ((s.readProc p).2).stale = s.stale := by
  cases p <;> rfl
@[simp] theorem State.readProc_pins (s : State) (p : ProcReg) : ((s.readProc p).2).pins = s.pins := by
  cases p <;> rfl
@[simp] theorem State.readProc_pinsAhead (s : State) (p : ProcReg) : ((s.readProc p).2).pinsAhead = s.pinsAhead := by
  cases p <;> rfl
@[simp] theorem State.readProc_platform (s : State) (p : ProcReg) : ((s.readProc p).2).platform = s.platform := by
  cases p <;> rfl
@[simp] theorem State.readProc_written (s : State) (p : ProcReg) : ((s.readProc p).2).written = s.written := by
  cases p <;> rfl
@[simp] theorem State.readProc_reg (s : State) (p : ProcReg) (x : Reg) : ((s.readProc p).2).reg x = s.reg x := by
  simp [State.reg]
@[simp] theorem State.readProc_flag (s : State) (p : ProcReg) (j : Nat) : ((s.readProc p).2).flag j = s.flag j := by
  simp [State.flag]
@[simp] theorem State.readProc_cfgEd (s : State) (p : ProcReg) : ((s.readProc p).2).cfgEd = s.cfgEd := by
  simp [State.cfgEd]
@[simp] theorem State.readProc_kindAt (s : State) (p : ProcReg) (x : Addr) : ((s.readProc p).2).kindAt x = s.kindAt x := by
  simp [State.kindAt]

/-! ### writePsr -/

@[simp] theorem State.writePsr_regs (s : State) (v : Word) : (s.writePsr v).regs = s.regs := by
  unfold State.writePsr; split <;> rfl
@[simp] theorem State.writePsr_pc (s : State) (v : Word) : (s.writePsr v).pc = s.pc := by
  unfold State.writePsr; split <;> rfl
@[simp] theorem State.writePsr_isp (s : State) (v : Word) : (s.writePsr v).isp = s.isp := by
  unfold State.writePsr; split <;> rfl
@[simp] theorem State.writePsr_intbase (s : State) (v : Word) : (s.writePsr v).intbase = s.intbase := by
  unfold State.writePsr; split <;> rfl
@[simp] theorem State.writePsr_cfg (s : State) (v : Word) : (s.writePsr v).cfg = s.cfg := by
  unfold State.writePsr; split <;> rfl
@[simp] theorem State.writePsr_dcr (s : State) (v : Word) : (s.writePsr v).dcr = s.dcr := by
  unfold State.writePsr; split <;> rfl
@[simp] theorem State.writePsr_dsr (s : State) (v : Word) : (s.writePsr v).dsr = s.dsr := by
  unfold State.writePsr; split <;> rfl
@[simp] theorem State.writePsr_car (s : State) (v : Word) : (s.writePsr v).car = s.car := by
  unfold State.writePsr; split <;> rfl
@[simp] theorem State.writePsr_dbgPending (s : State) (v : Word) : (s.writePsr v).dbgPending = s.dbgPending := by
  unfold State.writePsr; split <;> rfl
@[simp] theorem State.writePsr_opState (s : State) (v : Word) : (s.writePsr v).opState = s.opState := by
  unfold State.writePsr; split <;> rfl
@[simp] theorem State.writePsr_mem (s : State) (v : Word) : (s.writePsr v).mem = s.mem := by
  unfold State.writePsr; split <;> rfl
@[simp] theorem State.writePsr_stale (s : State) (v : Word) : (s.writePsr v).stale = s.stale := by
  unfold State.writePsr; split <;> rfl
@[simp] theorem State.writePsr_pins (s : State) (v : Word) : (s.writePsr v).pins = s.pins := by
  unfold State.writePsr; split <;> rfl
@[simp] theorem State.writePsr_pinsAhead (s : State) (v : Word) : (s.writePsr v).pinsAhead = s.pinsAhead := by
  unfold State.writePsr; split <;> rfl
@[simp] theorem State.writePsr_platform (s : State) (v : Word) : (s.writePsr v).platform = s.platform := by
  unfold State.writePsr; split <;> rfl
@[simp] theorem State.writePsr_written (s : State) (v : Word) : (s.writePsr v).written = s.written := by
  unfold State.writePsr; split <;> rfl
@[simp] theorem State.writePsr_reg (s : State) (v : Word) (x : Reg) : (s.writePsr v).reg x = s.reg x := by
  simp [State.reg]
@[simp] theorem State.writePsr_cfgEd (s : State) (v : Word) : (s.writePsr v).cfgEd = s.cfgEd := by
  simp [State.cfgEd]
@[simp] theorem State.writePsr_kindAt (s : State) (v : Word) (x : Addr) : (s.writePsr v).kindAt x = s.kindAt x := by
  simp [State.kindAt]

/-! ### writeProc -/

@[simp] theorem State.writeProc_regs (s : State) (p : ProcReg) (v : Word) : (s.writeProc p v).regs = s.regs := by
  cases p <;> first | rfl | simp [State.writeProc]
@[simp] theorem State.writeProc_pc (s : State) (p : ProcReg) (v : Word) : (s.writeProc p v).pc = s.pc := by
  cases p <;> first | rfl | simp [State.writeProc]
@[simp] theorem State.writeProc_dbgPending (s : State) (p : ProcReg) (v : Word) : (s.writeProc p v).dbgPending = s.dbgPending := by
  cases p <;> first | rfl | simp [State.writeProc]
@[simp] theorem State.writeProc_opState (s : State) (p : ProcReg) (v : Word) : (s.writeProc p v).opState = s.opState := by
  cases p <;> first | rfl | simp [State.writeProc]
@[simp] theorem State.writeProc_mem (s : State) (p : ProcReg) (v : Word) : (s.writeProc p v).mem = s.mem := by
  cases p <;> first | rfl | simp [State.writeProc]
@[simp] theorem State.writeProc_stale (s : State) (p : ProcReg) (v : Word) : (s.writeProc p v).stale = s.stale := by
  cases p <;> first | rfl | simp [State.writeProc]
@[simp] theorem State.writeProc_pins (s : State) (p : ProcReg) (v : Word) : (s.writeProc p v).pins = s.pins := by
  cases p <;> first | rfl | simp [State.writeProc]
@[simp] theorem State.writeProc_pinsAhead (s : State) (p : ProcReg) (v : Word) : (s.writeProc p v).pinsAhead = s.pinsAhead := by
  cases p <;> first | rfl | simp [State.writeProc]
@[simp] theorem State.writeProc_platform (s : State) (p : ProcReg) (v : Word) : (s.writeProc p v).platform = s.platform := by
  cases p <;> first | rfl | simp [State.writeProc]
@[simp] theorem State.writeProc_written (s : State) (p : ProcReg) (v : Word) : (s.writeProc p v).written = s.written := by
  cases p <;> first | rfl | simp [State.writeProc]
@[simp] theorem State.writeProc_reg (s : State) (p : ProcReg) (v : Word) (x : Reg) : (s.writeProc p v).reg x = s.reg x := by
  simp [State.reg]
@[simp] theorem State.writeProc_kindAt (s : State) (p : ProcReg) (v : Word) (x : Addr) : (s.writeProc p v).kindAt x = s.kindAt x := by
  simp [State.kindAt]

end Sys2Proof.Machine
end

