-- ==== Sys2Proof/Laws/Operations.lean ====
section
/-! SUPPORT. What each shared operation over memory and the debug unit does, said once: the frames compose,
an access changes the debug unit only as R281 says, a store changes only its bytes, a read of RAM or ROM
gives the byte that stands there, and every operation keeps memory canonical. -/

namespace Sys2Proof.Machine

/-! ### Frames compose -/

theorem DebugKept.refl (s : State) : DebugKept s s := ⟨rfl, rfl, rfl⟩

theorem DebugKept.trans {s t u : State} (h1 : DebugKept s t) (h2 : DebugKept t u) : DebugKept s u :=
  ⟨h2.dcr.trans h1.dcr, h2.dsr.trans h1.dsr, h2.pending.trans h1.pending⟩

theorem DebugKept.unit {s t : State} (h : DebugKept s t) : t.debugUnit = s.debugUnit := by
  rw [State.debugUnit, h.dcr, h.dsr, h.pending, State.debugUnit]

/-- Nothing hits while DEN is 0 (60_exceptions.md R281). -/
theorem DebugUnit.not_hit {u : DebugUnit} (h : u.dcr.getLsbD dcrDen = false) (car : Addr) (a : Access) :
    ¬ u.Hit car a := fun hit => by
  have := hit.1
  rw [h] at this
  cases this

theorem DebugUnit.After.of_disarmed {car : Addr} {u v : DebugUnit} (hd : u.dcr.getLsbD dcrDen = false) :
    ∀ {as : List Access}, u.After car v as → v = u
  | [], h => h
  | _ :: _, h => DebugUnit.After.of_disarmed hd (h.2 (DebugUnit.not_hit hd car _))

/-- Accesses after accesses: a match among the first disarms the rest. -/
theorem DebugUnit.After.trans {car : Addr} {u v w : DebugUnit} {bs : List Access} :
    ∀ {as : List Access}, u.After car v as → v.After car w bs → u.After car w (as ++ bs)
  | [], h1, h2 => by
    obtain rfl : v = u := h1
    exact h2
  | a :: as, h1, h2 => by
    refine ⟨fun hit => ?_, fun miss => (h1.2 miss).trans h2⟩
    have m := h1.1 hit
    obtain rfl : w = v := h2.of_disarmed (by rw [m.2.2]; simp)
    exact m

/-- An update that keeps the debug unit is no access. -/
theorem DebugKept.access {s t : State} (h : DebugKept s t) : DebugOfAccess s t [] := h.unit

theorem DebugOfAccess.refl (s : State) : DebugOfAccess s s [] := (DebugKept.refl s).access

theorem DebugOfAccess.trans {s t u : State} {as bs : List Access} (h1 : DebugOfAccess s t as)
    (h2 : DebugOfAccess t u bs) (hc : t.car = s.car := by simp) : DebugOfAccess s u (as ++ bs) := by
  unfold DebugOfAccess at h2
  rw [hc] at h2
  exact DebugUnit.After.trans h1 h2

/-- The debug unit after an access and an update of other fields. -/
theorem DebugOfAccess.of_eq {s u : State} {as : List Access} (h : DebugOfAccess s u as) {t : State}
    (h1 : t.dcr = u.dcr) (h2 : t.dsr = u.dsr) (h3 : t.dbgPending = u.dbgPending) : DebugOfAccess s t as := by
  have e : t.debugUnit = u.debugUnit := DebugKept.unit ⟨h1, h2, h3⟩
  unfold DebugOfAccess
  rw [e]
  exact h

/-- An access from a state with the same debug unit. -/
theorem DebugOfAccess.from_eq {s r t : State} {as : List Access} (h : DebugOfAccess r t as)
    (h0 : DebugKept s r) (hc : r.car = s.car) : DebugOfAccess s t as := by
  unfold DebugOfAccess at h ⊢
  rw [← h0.unit, ← hc]
  exact h

theorem reads_append (as bs : List Addr) : reads (as ++ bs) = reads as ++ reads bs := List.map_append
theorem writes_append (as bs : List Addr) : writes (as ++ bs) = writes as ++ writes bs := List.map_append

theorem MemoryBut.refl (s : State) (as : List Addr) : MemoryBut s s as := fun _ _ => rfl

theorem MemoryBut.of_mem {s t : State} (h : t.mem = s.mem) (as : List Addr) : MemoryBut s t as :=
  fun a _ => by rw [State.byteAt, h, State.byteAt]

theorem MemoryBut.mono {s t : State} {as bs : List Addr} (h : MemoryBut s t as) (hs : as ⊆ bs) :
    MemoryBut s t bs := fun a ha => h a fun h' => ha (hs h')

theorem MemoryBut.trans {s t u : State} {as bs : List Addr} (h1 : MemoryBut s t as)
    (h2 : MemoryBut t u bs) : MemoryBut s u (as ++ bs) := fun a ha => by
  rw [List.mem_append, not_or] at ha
  rw [h2 a ha.2, h1 a ha.1]

theorem RegsBut.refl (s : State) (ds : List Reg) : RegsBut s s ds := fun _ _ => rfl

theorem RegsBut.trans {s t u : State} {ds : List Reg} (h1 : RegsBut s t ds) (h2 : RegsBut t u ds) :
    RegsBut s u ds := fun r hr => (h2 r hr).trans (h1 r hr)

theorem FlagsBut.refl (s : State) (ks : List Nat) : FlagsBut s s ks := fun _ _ => rfl

theorem FlagsBut.of_psr {s t : State} (h : t.psr = s.psr) (ks : List Nat) : FlagsBut s t ks :=
  fun k _ => by rw [State.flag, h, State.flag]

theorem FlagsBut.trans {s t u : State} {ks : List Nat} (h1 : FlagsBut s t ks) (h2 : FlagsBut t u ks) :
    FlagsBut s u ks := fun k hk => (h2 k hk).trans (h1 k hk)

theorem FlagsBut.mono {s t : State} {ks js : List Nat} (h : FlagsBut s t ks) (hs : ks ⊆ js) :
    FlagsBut s t js := fun k hk => h k fun h' => hk (hs h')

/-- A flag written is one bit of PSR. -/
theorem flagsBut_setFlag (s : State) (k : Nat) (b : Bool) : FlagsBut s (s.setFlag k b) [k] := by
  intro j hj
  have : j ≠ k := by simpa using hj
  simp [State.flag, getLsbD_withBit, this]

theorem regsBut_setReg (s : State) (r : Reg) (v : Word) : RegsBut s (s.setReg r v) [r] := by
  intro x hx
  exact State.reg_setReg_ne s v (by simpa using hx)

theorem SpecialsKept.refl (s : State) : SpecialsKept s s := ⟨rfl, rfl, rfl, rfl, rfl, rfl, rfl⟩

theorem SpecialsKept.trans {s t u : State} (h1 : SpecialsKept s t) (h2 : SpecialsKept t u) : SpecialsKept s u :=
  ⟨h2.isp.trans h1.isp, h2.intbase.trans h1.intbase, h2.cfg.trans h1.cfg, h2.car.trans h1.car,
   h2.platform.trans h1.platform, h2.pins.trans h1.pins, h2.pinsAhead.trans h1.pinsAhead⟩

/-! ### The compare-address condition -/

/-- An access leaves the state as it was, or records a match. -/
theorem State.noteAccess_cases (s : State) (k : AccessKind) (b : Addr) :
    (s.compareMatches k b = false ∧ s.noteAccess k b = s) ∨
    (s.compareMatches k b = true ∧ s.noteAccess k b = s.recordMatch (compareStatus k)) := by
  unfold State.noteAccess
  cases h : s.compareMatches k b <;> simp

/-- A match is possible only while DEN is 1. -/
theorem State.compareMatches_den {s : State} {k : AccessKind} {b : Addr} (h : s.compareMatches k b = true) :
    s.dcr.getLsbD dcrDen = true := by
  simp only [State.compareMatches, Bool.and_eq_true] at h
  exact h.1.1.1.1

/-- What a recorded match sets and clears (60_exceptions.md R281, R282). -/
theorem State.recordMatch_spec (s : State) {st : Nat} (h : st < 16) :
    (s.recordMatch st).dbgPending = true ∧
    (∀ k, (s.recordMatch st).dsr.getLsbD k = (s.dsr.getLsbD k || decide (k = st))) ∧
    (∀ k, (s.recordMatch st).dcr.getLsbD k = (s.dcr.getLsbD k && decide (k ≠ dcrDen))) := by
  refine ⟨by simp, fun k => ?_, fun k => ?_⟩
  · simp only [State.recordMatch_dsr, getLsbD_withBit]
    by_cases hk : k = st <;> simp [hk, h]
  · simp only [State.recordMatch_dcr, getLsbD_withBit]
    by_cases hk : k = dcrDen
    · simp [hk, dcrDen]
    · rw [if_neg fun h => hk h.1]; simp [hk]

/-- The model's test of an access is the condition of R281. -/
theorem State.compareMatches_iff (s : State) (k : AccessKind) (b : Addr) :
    s.compareMatches k b = true ↔ s.debugUnit.Hit s.car (k, b) := by
  have e : (b.extractLsb' 1 20 = s.car.extractLsb' 1 20) ↔ b.toNat / 2 = s.car.toNat / 2 := by
    rw [← BitVec.toNat_inj, BitVec.extractLsb'_toNat, BitVec.extractLsb'_toNat, Nat.shiftRight_eq_div_pow,
      Nat.shiftRight_eq_div_pow]
    have h1 := b.isLt
    have h2 := s.car.isLt
    constructor <;> intro h <;> omega
  have e2 : (if b.getLsbD 0 then 1 else 0) = b.toNat % 2 := by
    rw [BitVec.getLsbD, Nat.testBit_zero]
    by_cases h : b.toNat % 2 = 1
    · simp [h]
    · have : b.toNat % 2 = 0 := by omega
      simp [this]
  unfold State.compareMatches DebugUnit.Hit
  rw [e2]
  cases k <;> simp [State.debugUnit, compareEnable, e, and_assoc]

theorem debugOfAccess_noteAccess (s : State) (k : AccessKind) (b : Addr) :
    DebugOfAccess s (s.noteAccess k b) [(k, b)] := by
  have h16 : compareStatus k < 16 := by cases k <;> decide
  have e : (if k = .read then dsrBrd else dsrBwr) = compareStatus k := by cases k <;> rfl
  have hi := s.compareMatches_iff k b
  rcases s.noteAccess_cases k b with ⟨hm, h⟩ | ⟨hm, h⟩ <;> rw [h]
  · rw [hm] at hi
    exact ⟨fun hit => absurd (hi.2 hit) (by decide), fun _ => rfl⟩
  · refine ⟨fun _ => ?_, fun miss => absurd (hi.1 hm) miss⟩
    show DebugUnit.Matched _ _ _
    rw [e]
    exact s.recordMatch_spec h16

/-! ### Reads -/

theorem State.loadByte_debug (s : State) (a : Addr) : DebugKept s (s.loadByte a).2 := ⟨by simp, by simp, by simp⟩

theorem debugOfAccess_readByte (s : State) (a : Addr) : DebugOfAccess s (s.readByte a).2 (reads [a]) :=
  (State.loadByte_debug s a).access.trans (debugOfAccess_noteAccess _ _ _)

theorem debugOfAccess_readWord (s : State) (a : Addr) : DebugOfAccess s (s.readWord a).2 (reads (wordBytes a)) :=
  (debugOfAccess_readByte s a).trans (debugOfAccess_readByte _ _)

/-- Where RAM or ROM stands, a load gives the byte that stands there. -/
theorem State.loadByte_stored {s : State} {a : Addr} (h : s.isStored a) : s.loadByte a = (s.byteAt a, s) := by
  unfold State.loadByte
  rcases h with h | h <;> rw [h] <;> rfl

/-- Where RAM or ROM stands, MemRead of one byte gives it. -/
theorem State.readByte_stored {s : State} {a : Addr} (h : s.isStored a) : (s.readByte a).1 = s.byteAt a := by
  simp [State.readByte, State.loadByte_stored h]

theorem State.byteAt_of_mem {s t : State} (h : t.mem = s.mem) (a : Addr) : t.byteAt a = s.byteAt a := by
  rw [State.byteAt, h, State.byteAt]

theorem State.wordAt_of_mem {s t : State} (h : t.mem = s.mem) (a : Addr) : t.wordAt a = s.wordAt a := by
  rw [State.wordAt, State.wordAt, State.byteAt_of_mem h, State.byteAt_of_mem h]

theorem State.kindAt_of_platform {s t : State} (h : t.platform = s.platform) (a : Addr) :
    t.kindAt a = s.kindAt a := by rw [State.kindAt, h, State.kindAt]

theorem State.isStored_of_platform {s t : State} (h : t.platform = s.platform) (a : Addr) :
    t.isStored a ↔ s.isStored a := by rw [State.isStored, State.isStored, State.kindAt_of_platform h]

theorem State.isRam_of_platform {s t : State} (h : t.platform = s.platform) (a : Addr) :
    t.isRam a ↔ s.isRam a := by rw [State.isRam, State.isRam, State.kindAt_of_platform h]

/-- The state a read of a byte leaves. -/
theorem State.readByte_state (s : State) (a : Addr) :
    (s.readByte a).2 = (s.loadByte a).2.noteAccess .read a := rfl

/-- The state a read of a word leaves. -/
theorem State.readWord_state (s : State) (a : Addr) :
    (s.readWord a).2 = ((s.readByte a).2.readByte (a + 1)).2 := rfl

/-- Where RAM or ROM stands, MemRead of two bytes gives the little-endian word (20_memory.md R63). -/
theorem State.readWord_stored {s : State} {a : Addr} (h : s.storedWord a) :
    (s.readWord a).1.toNat = s.wordAt a := by
  have h2 : (s.readByte a).2.isStored (a + 1) := (State.isStored_of_platform (by simp) _).2 h.2
  unfold State.readWord
  simp only [toNat_append8, State.readByte_stored h2, State.readByte_stored h.1, State.wordAt]
  rw [State.byteAt_of_mem (State.readByte_mem s a)]
  omega

/-! ### Stores -/

/-- A store is a write of RAM with its mark, or nothing. -/
theorem State.storeByte_cases (s : State) (a : Addr) (v : Byte) :
    (s.isRam a ∧ s.storeByte a v =
      { s with
        mem := memWrite s.mem a.toNat v
        stale := addMark s.stale a.toNat (memRead s.mem a.toNat)
        written := a.toNat :: s.written }) ∨
    (¬ s.isRam a ∧ s.storeByte a v = s) := by
  unfold State.storeByte State.isRam
  cases s.kindAt a <;> simp

theorem State.storeByte_debug (s : State) (a : Addr) (v : Byte) : DebugKept s (s.storeByte a v) :=
  ⟨by simp, by simp, by simp⟩

theorem debugOfAccess_writeByte (s : State) (a : Addr) (v : Byte) :
    DebugOfAccess s (s.writeByte a v) (writes [a]) :=
  (State.storeByte_debug s a v).access.trans (debugOfAccess_noteAccess _ _ _)

theorem debugOfAccess_writeWord (s : State) (a : Addr) (v : Word) :
    DebugOfAccess s (s.writeWord a v) (writes (wordBytes a)) :=
  (debugOfAccess_writeByte s a _).trans (debugOfAccess_writeByte _ _ _)

theorem addr_toNat_ne {a b : Addr} (h : a ≠ b) : a.toNat ≠ b.toNat := fun e => h (BitVec.eq_of_toNat_eq e)

theorem State.writeByte_mem (s : State) (a : Addr) (v : Byte) : (s.writeByte a v).mem = (s.storeByte a v).mem := by
  simp [State.writeByte]

theorem memoryBut_writeByte (s : State) (a : Addr) (v : Byte) : MemoryBut s (s.writeByte a v) [a] := by
  intro x hx
  have hne : x ≠ a := by simpa using hx
  rw [State.byteAt, State.writeByte_mem]
  rcases s.storeByte_cases a v with ⟨_, h⟩ | ⟨_, h⟩ <;> rw [h]
  · exact memRead_memWrite_ne s.mem a.toNat v (addr_toNat_ne hne)
  · rfl

theorem memoryBut_writeWord (s : State) (a : Addr) (v : Word) : MemoryBut s (s.writeWord a v) [a, a + 1] :=
  (memoryBut_writeByte s a _).trans (memoryBut_writeByte _ (a + 1) _)

/-- In canonical RAM a stored byte is read back; elsewhere nothing changes (20_memory.md R64, R70). -/
theorem byteStored_writeByte {s : State} (h : s.mem.wf = true) (a : Addr) (v : Byte) :
    ByteStored s (s.writeByte a v) a v.toNat := by
  constructor
  · intro hr
    rw [State.byteAt, State.writeByte_mem]
    rcases s.storeByte_cases a v with ⟨_, h'⟩ | ⟨h', _⟩
    · rw [h']; exact congrArg BitVec.toNat (memRead_memWrite_self h a.toNat v)
    · exact absurd hr h'
  · intro hr
    rw [State.byteAt, State.writeByte_mem]
    rcases s.storeByte_cases a v with ⟨h', _⟩ | ⟨_, h'⟩
    · exact absurd h' hr
    · rw [h']; rfl

theorem wf_storeByte {s : State} (h : s.mem.wf = true) (a : Addr) (v : Byte) : (s.storeByte a v).mem.wf = true := by
  rcases s.storeByte_cases a v with ⟨_, e⟩ | ⟨_, e⟩ <;> rw [e]
  · exact wf_memWrite_addr h a v
  · exact h

theorem wf_writeByte {s : State} (h : s.mem.wf = true) (a : Addr) (v : Byte) : (s.writeByte a v).mem.wf = true := by
  rw [State.writeByte_mem]; exact wf_storeByte h a v

theorem wf_writeWord {s : State} (h : s.mem.wf = true) (a : Addr) (v : Word) : (s.writeWord a v).mem.wf = true :=
  wf_writeByte (wf_writeByte h _ _) _ _

/-- In canonical RAM a stored word stands there, low byte first (20_memory.md R64). -/
theorem wordStored_writeWord {s : State} (h : s.mem.wf = true) (a : Addr) (v : Word) :
    WordStored s (s.writeWord a v) a v.toNat := by
  have h1 := byteStored_writeByte h a (v.extractLsb' 0 8)
  have h2 := byteStored_writeByte (wf_writeByte h a (v.extractLsb' 0 8)) (a + 1) (v.extractLsb' 8 8)
  have m1 := memoryBut_writeByte s a (v.extractLsb' 0 8) (a + 1) (by simp)
  have m2 := memoryBut_writeByte (s.writeByte a (v.extractLsb' 0 8)) (a + 1) (v.extractLsb' 8 8) a
    (by simp)
  rw [toNat_low8] at h1
  rw [toNat_high8] at h2
  refine ⟨⟨fun hr => ?_, fun hr => ?_⟩, ⟨fun hr => ?_, fun hr => ?_⟩⟩
  · exact (congrArg BitVec.toNat m2).trans (h1.1 hr)
  · exact m2.trans (h1.2 hr)
  · exact h2.1 ((State.isRam_of_platform (by simp) _).2 hr)
  · exact (h2.2 fun h' => hr ((State.isRam_of_platform (by simp) _).1 h')).trans m1

/-- The word that stands where a word was stored. -/
theorem WordStored.wordAt {s t : State} {a : Addr} {v : Nat} (h : WordStored s t a v) (hr : s.ramWord a) :
    t.wordAt a = v := by
  rw [State.wordAt, h.1.1 hr.1, h.2.1 hr.2]; omega

/-! ### What a store records -/

/-- Stores to addresses of the list: each is recorded in written where RAM stands, bytes that are not
recorded or where no RAM stands are unchanged (20_memory.md R61, R64, R70; notes/assumptions/6.md). -/
structure StoresRecorded (s t : State) (as : List Addr) : Prop where
  kept : ∀ n, n ∈ s.written → n ∈ t.written
  recorded : ∀ n, n ∈ t.written → n ∈ s.written ∨ ∃ a, a ∈ as ∧ n = a.toNat ∧ s.isRam a
  bytes : ∀ a : Addr, a.toNat ∉ t.written → t.byteAt a = s.byteAt a
  notRam : ∀ a : Addr, ¬ s.isRam a → t.byteAt a = s.byteAt a
  platform : t.platform = s.platform

theorem StoresRecorded.of_eq {s t : State} (hm : t.mem = s.mem) (hw : t.written = s.written)
    (hp : t.platform = s.platform) : StoresRecorded s t [] :=
  ⟨fun n h => by rw [hw]; exact h, fun n h => .inl (by rw [hw] at h; exact h),
   fun a _ => State.byteAt_of_mem hm a, fun a _ => State.byteAt_of_mem hm a, hp⟩

theorem StoresRecorded.refl (s : State) : StoresRecorded s s [] := .of_eq rfl rfl rfl

theorem StoresRecorded.mono {s t : State} {as bs : List Addr} (h : StoresRecorded s t as) (hs : as ⊆ bs) :
    StoresRecorded s t bs :=
  ⟨h.kept, fun n hn => (h.recorded n hn).imp id fun ⟨a, ha, h'⟩ => ⟨a, hs ha, h'⟩, h.bytes, h.notRam, h.platform⟩

theorem StoresRecorded.trans {s t u : State} {as bs : List Addr} (h1 : StoresRecorded s t as)
    (h2 : StoresRecorded t u bs) : StoresRecorded s u (as ++ bs) where
  kept n h := h2.kept n (h1.kept n h)
  recorded n h := by
    rcases h2.recorded n h with h | ⟨a, ha, hn, hr⟩
    · exact (h1.recorded n h).imp id fun ⟨a, ha, h'⟩ => ⟨a, List.mem_append_left _ ha, h'⟩
    · exact .inr ⟨a, List.mem_append_right _ ha, hn, (State.isRam_of_platform h1.platform a).1 hr⟩
  bytes a h := (h2.bytes a h).trans (h1.bytes a fun h' => h (h2.kept _ h'))
  notRam a h := (h2.notRam a fun h' => h ((State.isRam_of_platform h1.platform a).1 h')).trans (h1.notRam a h)
  platform := h2.platform.trans h1.platform

/-- A newly recorded address is one of RAM. -/
theorem StoresRecorded.ram {s t : State} {as : List Addr} (h : StoresRecorded s t as) (n : Nat)
    (hn : n ∈ t.written) : n ∈ s.written ∨ (n < 2 ^ 21 ∧ kindIn s.platform.map n = .ram) :=
  (h.recorded n hn).imp id fun ⟨a, _, e, hr⟩ => by rw [e]; exact ⟨a.isLt, hr⟩

theorem storesRecorded_storeByte (s : State) (a : Addr) (v : Byte) : StoresRecorded s (s.storeByte a v) [a] := by
  rcases s.storeByte_cases a v with ⟨hr, e⟩ | ⟨_, e⟩
  · rw [e]
    refine ⟨fun n h => by simp [h], fun n h => ?_, fun x hx => ?_, fun x hx => ?_, rfl⟩
    · rcases List.mem_cons.1 h with rfl | h
      · exact .inr ⟨a, by simp, rfl, hr⟩
      · exact .inl h
    · have : x.toNat ≠ a.toNat := fun h => hx (by simp [h])
      exact memRead_memWrite_ne s.mem a.toNat v this
    · have : x ≠ a := fun h => hx (h ▸ hr)
      exact memRead_memWrite_ne s.mem a.toNat v (addr_toNat_ne this)
  · rw [e]; exact (StoresRecorded.refl s).mono (by simp)

theorem storesRecorded_writeByte (s : State) (a : Addr) (v : Byte) : StoresRecorded s (s.writeByte a v) [a] :=
  (storesRecorded_storeByte s a v).trans (.of_eq (State.noteAccess_mem _ _ _) (State.noteAccess_written _ _ _)
    (State.noteAccess_platform _ _ _))

theorem storesRecorded_writeWord (s : State) (a : Addr) (v : Word) :
    StoresRecorded s (s.writeWord a v) (wordBytes a) :=
  (storesRecorded_writeByte s a _).trans (storesRecorded_writeByte _ _ _)

end Sys2Proof.Machine
end

