-- ==== Sys2Proof/Laws/Runs.lean ====
section
/-! SUPPORT. Runs of words and registers: PUSH, POP, POPRET, LOADM, STORM and the free values of an excluded
run (44_jumps_linkage.md R205; 93_implementation_defined.md U12). -/

namespace Sys2Proof.Machine

/-! ### Addresses of a run -/

theorem stackBytes_zero (a : Word) : stackBytes a 0 = [] := rfl

theorem stackBytes_succ (a : Word) (n : Nat) :
    stackBytes a (n + 1) = [a.setWidth 21, a.setWidth 21 + 1] ++ stackBytes (a + 2) n := by
  have e : ∀ k : Nat, a + BitVec.ofNat 16 (2 * (k + 1)) = a + 2 + BitVec.ofNat 16 (2 * k) := fun k => by
    rw [Nat.mul_succ, BitVec.ofNat_add, BitVec.add_comm (BitVec.ofNat 16 (2 * k)), BitVec.add_assoc]
    rfl
  simp only [stackBytes, List.range_succ_eq_map, List.flatMap_cons, List.flatMap_map, e]
  simp

/-- The word address k of a run from a is word address k - 1 of the run from a + 2. -/
theorem runAddr_succ (a : Word) (k : Nat) :
    a + BitVec.ofNat 16 (2 * (k + 1)) = a + 2 + BitVec.ofNat 16 (2 * k) := by
  rw [Nat.mul_succ, BitVec.ofNat_add, BitVec.add_comm (BitVec.ofNat 16 (2 * k)), BitVec.add_assoc]
  rfl

theorem runAddr_zero (a : Word) : a + BitVec.ofNat 16 (2 * 0) = a := by simp

theorem mem_stackBytes {a : Word} {n : Nat} {x : Addr} :
    x ∈ stackBytes a n ↔ ∃ k, k < n ∧ (x = (a + BitVec.ofNat 16 (2 * k)).setWidth 21 ∨
      x = (a + BitVec.ofNat 16 (2 * k)).setWidth 21 + 1) := by
  simp [stackBytes]

theorem toNat_runAddr (a : Word) (k : Nat) :
    ((a + BitVec.ofNat 16 (2 * k)).setWidth 21).toNat = (a.toNat + 2 * k) % 65536 := by
  rw [BitVec.toNat_setWidth, BitVec.toNat_add, BitVec.toNat_ofNat]
  omega

theorem toNat_runAddr_succ (a : Word) (k : Nat) :
    ((a + BitVec.ofNat 16 (2 * k)).setWidth 21 + 1).toNat = (a.toNat + 2 * k) % 65536 + 1 := by
  rw [BitVec.toNat_add, toNat_runAddr]
  change _ % 2097152 = _
  have : ((1 : Addr)).toNat = 1 := rfl
  omega

/-- The first word of a run of at most 32768 is apart from the others. -/
theorem head_notMem_stackBytes (a : Word) {n : Nat} (h : n < 32768) :
    a.setWidth 21 ∉ stackBytes (a + 2) n ∧ a.setWidth 21 + 1 ∉ stackBytes (a + 2) n := by
  have h0 := toNat_runAddr a 0
  have h1 := toNat_runAddr_succ a 0
  rw [runAddr_zero] at h0 h1
  constructor <;>
  · intro hm
    obtain ⟨k, hk, e⟩ := mem_stackBytes.1 hm
    rw [← runAddr_succ] at e
    have hk0 := toNat_runAddr a (k + 1)
    have hk1 := toNat_runAddr_succ a (k + 1)
    have hp : (2 : Nat) ^ 16 = 65536 := rfl
    have := a.isLt
    rcases e with e | e <;> have e := congrArg BitVec.toNat e <;> omega

/-! ### Storing a run -/

theorem memoryBut_storeWords : ∀ (vs : List Word) (s : State) (a : Word),
    MemoryBut s (s.storeWords a vs) (stackBytes a vs.length)
  | [], s, _ => .refl s _
  | v :: vs, s, a => by
    rw [List.length_cons, stackBytes_succ]
    exact (memoryBut_writeWord s _ v).trans (memoryBut_storeWords vs _ _)

theorem debugOfAccess_storeWords : ∀ (vs : List Word) (s : State) (a : Word),
    DebugOfAccess s (s.storeWords a vs) (writes (stackBytes a vs.length))
  | [], s, _ => .refl s
  | v :: vs, s, a => by
    rw [List.length_cons, stackBytes_succ, writes_append]
    exact (debugOfAccess_writeWord s _ v).trans (debugOfAccess_storeWords vs _ _)

theorem wf_storeWords : ∀ (vs : List Word) {s : State} (a : Word), s.mem.wf = true →
    (s.storeWords a vs).mem.wf = true
  | [], _, _, h => h
  | v :: vs, _, _, h => wf_storeWords vs _ (wf_writeWord h _ v)

theorem storesRecorded_storeWords : ∀ (vs : List Word) (s : State) (a : Word),
    StoresRecorded s (s.storeWords a vs) (stackBytes a vs.length)
  | [], s, _ => .refl s
  | v :: vs, s, a => by
    rw [List.length_cons, stackBytes_succ]
    exact (storesRecorded_writeWord s _ v).trans (storesRecorded_storeWords vs _ _)

/-- Each word of a stored run stands at its address where RAM stands there (44_jumps_linkage.md R206). -/
theorem wordAt_storeWords (vs : List Word) {s : State} (a : Word) (h : s.mem.wf = true)
    (hl : vs.length < 32768) (k : Nat) (hk : k < vs.length)
    (hr : s.ramWord ((a + BitVec.ofNat 16 (2 * k)).setWidth 21)) :
    (s.storeWords a vs).wordAt ((a + BitVec.ofNat 16 (2 * k)).setWidth 21) = vs[k].toNat := by
  induction vs generalizing s a k with
  | nil => cases hk
  | cons v vs ih =>
    rw [List.length_cons] at hl hk
    show ((s.writeWord (a.setWidth 21) v).storeWords (a + 2) vs).wordAt _ = _
    cases k with
    | zero =>
      rw [runAddr_zero] at hr ⊢
      obtain ⟨n0, n1⟩ := head_notMem_stackBytes a (n := vs.length) (by omega)
      have m := memoryBut_storeWords vs (s.writeWord (a.setWidth 21) v) (a + 2)
      rw [State.wordAt, m _ n0, m _ n1]
      exact (wordStored_writeWord h (a.setWidth 21) v).wordAt hr
    | succ k =>
      rw [runAddr_succ] at hr ⊢
      exact ih (a + 2) (wf_writeWord h _ v) (by omega) k (by omega)
        ⟨(State.isRam_of_platform (by simp) _).2 hr.1, (State.isRam_of_platform (by simp) _).2 hr.2⟩

/-! ### The registers of a run -/

theorem length_regRun : ∀ (n r : Nat), r + n ≤ 16 → (regRun r n).length = n
  | 0, _, _ => rfl
  | n + 1, r, h => by
    have hr : r < 16 := by omega
    simp only [regRun, hr, ↓reduceDIte, List.length_cons, length_regRun n (r + 1) (by omega)]

theorem getElem_regRun : ∀ (n r k : Nat) (_ : r + n ≤ 16) (hk : k < (regRun r n).length),
    (regRun r n)[k].val = r + k
  | n + 1, r, 0, _, _ => by
    have hr : r < 16 := by omega
    simp [regRun, hr]
  | n + 1, r, k + 1, h, hk => by
    have hr : r < 16 := by omega
    simp only [regRun, hr, ↓reduceDIte, List.length_cons] at hk
    simp only [regRun, hr, ↓reduceDIte, List.getElem_cons_succ]
    rw [getElem_regRun n (r + 1) k (by omega) (by omega)]
    omega

/-- A register is in a run if its number is. -/
theorem mem_regRun : ∀ (n r : Nat) (x : Reg), x ∈ regRun r n ↔ r ≤ x.val ∧ x.val < r + n
  | 0, r, x => by simp [regRun]
  | n + 1, r, x => by
    by_cases hr : r < 16
    · simp only [regRun, hr, ↓reduceDIte, List.mem_cons, mem_regRun n (r + 1) x, Fin.ext_iff]
      omega
    · have := x.isLt
      simp only [regRun, hr, ↓reduceDIte, List.not_mem_nil, false_iff]
      omega

/-! ### Loading a run -/

theorem debugOfAccess_loadRegs : ∀ (rs : List Reg) (s : State) (a : Word),
    DebugOfAccess s (s.loadRegs a rs) (reads (stackBytes a rs.length))
  | [], s, _ => .refl s
  | r :: rs, s, a => by
    have h : DebugOfAccess s ((s.readWord (a.setWidth 21)).2.setReg r (s.readWord (a.setWidth 21)).1)
        (reads (wordBytes (a.setWidth 21))) := (debugOfAccess_readWord s (a.setWidth 21)).of_eq rfl rfl rfl
    rw [List.length_cons, stackBytes_succ, reads_append]
    exact h.trans (debugOfAccess_loadRegs rs _ _)

theorem reg_loadRegs_of_notMem : ∀ (rs : List Reg) (s : State) (a : Word) (x : Reg), x ∉ rs →
    (s.loadRegs a rs).reg x = s.reg x
  | [], _, _, _, _ => rfl
  | r :: rs, s, a, x, h => by
    rw [List.mem_cons, not_or] at h
    show State.reg (State.loadRegs _ _ rs) x = _
    rw [reg_loadRegs_of_notMem rs _ _ x h.2, State.reg_setReg_ne _ _ h.1, State.readWord_reg]

theorem storedWord_of_platform {s t : State} (h : t.platform = s.platform) (a : Addr) :
    t.storedWord a ↔ s.storedWord a := by
  rw [State.storedWord, State.storedWord, State.isStored_of_platform h, State.isStored_of_platform h]

/-- Each register of a loaded run holds the word of its address where RAM or ROM stands there
(44_jumps_linkage.md R207). -/
theorem reg_loadRegs (n r : Nat) (s : State) (a : Word) (h : r + n ≤ 16) (k : Nat) (hk : k < n) (x : Reg)
    (hx : x.val = r + k) (hs : s.storedWord ((a + BitVec.ofNat 16 (2 * k)).setWidth 21)) :
    ((s.loadRegs a (regRun r n)).reg x).toNat = s.wordAt ((a + BitVec.ofNat 16 (2 * k)).setWidth 21) := by
  induction n generalizing r s a k with
  | zero => omega
  | succ n ih =>
    have hr : r < 16 := by omega
    simp only [regRun, hr, ↓reduceDIte, State.loadRegs]
    cases k with
    | zero =>
      obtain rfl : x = ⟨r, hr⟩ := Fin.ext hx
      rw [runAddr_zero] at hs ⊢
      rw [reg_loadRegs_of_notMem, State.reg_setReg_self, State.readWord_stored hs]
      rw [mem_regRun]
      simp
    | succ k =>
      rw [runAddr_succ] at hs ⊢
      rw [ih (r + 1) _ (a + 2) (by omega) k (by omega) (by omega) ((storedWord_of_platform (by simp) _).2 hs)]
      exact State.wordAt_of_mem (by simp) _

/-! ### Free values in a run -/

theorem debugKept_freeRegs : ∀ (rs : List Reg) (s : State), DebugKept s (s.freeRegs rs)
  | [], s => .refl s
  | r :: rs, s => by
    have h : DebugKept s (s.drawWord.2.setReg r s.drawWord.1) := ⟨rfl, rfl, rfl⟩
    exact h.trans (debugKept_freeRegs rs _)

theorem reg_freeRegs_of_notMem : ∀ (rs : List Reg) (s : State) (x : Reg), x ∉ rs →
    (s.freeRegs rs).reg x = s.reg x
  | [], _, _, _ => rfl
  | r :: rs, s, x, h => by
    rw [List.mem_cons, not_or] at h
    show State.reg (State.freeRegs _ rs) x = _
    rw [reg_freeRegs_of_notMem rs _ x h.2, State.reg_setReg_ne _ _ h.1, State.drawWord_reg]

theorem length_drawWords : ∀ (n : Nat) (s : State), (s.drawWords n).1.length = n
  | 0, _ => rfl
  | n + 1, s => by simp [State.drawWords, length_drawWords n]

theorem memoryBut_storeFree (s : State) (a : Word) (n : Nat) : MemoryBut s (s.storeFree a n) (stackBytes a n) := by
  have h := memoryBut_storeWords (s.drawWords n).1 (s.drawWords n).2 a
  rw [length_drawWords] at h
  intro x hx
  exact (h x hx).trans (State.byteAt_of_mem (State.drawWords_mem s n) x)

theorem debugOfAccess_storeFree (s : State) (a : Word) (n : Nat) :
    DebugOfAccess s (s.storeFree a n) (writes (stackBytes a n)) := by
  have h := debugOfAccess_storeWords (s.drawWords n).1 (s.drawWords n).2 a
  rw [length_drawWords] at h
  exact h.from_eq ⟨by simp, by simp, by simp⟩ (by simp)

theorem wf_storeFree {s : State} (h : s.mem.wf = true) (a : Word) (n : Nat) : (s.storeFree a n).mem.wf = true :=
  wf_storeWords _ _ (by rw [State.drawWords_mem]; exact h)

theorem storesRecorded_storeFree (s : State) (a : Word) (n : Nat) :
    StoresRecorded s (s.storeFree a n) (stackBytes a n) := by
  have h := storesRecorded_storeWords (s.drawWords n).1 (s.drawWords n).2 a
  rw [length_drawWords] at h
  exact StoresRecorded.trans (.of_eq (by simp) (by simp) (by simp)) h

theorem memoryBut_freeByteAt (s : State) (a : Addr) : MemoryBut s (s.freeByteAt a) [a] := by
  intro x hx
  have hne : x ≠ a := by simpa using hx
  unfold State.freeByteAt
  rcases State.storeByte_cases s.drawByte.2 a s.drawByte.1 with ⟨_, h⟩ | ⟨_, h⟩ <;> rw [h]
  · exact memRead_memWrite_ne s.mem a.toNat _ (addr_toNat_ne hne)
  · rfl

theorem wf_freeByteAt {s : State} (h : s.mem.wf = true) (a : Addr) : (s.freeByteAt a).mem.wf = true :=
  wf_storeByte (s := s.drawByte.2) h a _

theorem storesRecorded_freeByteAt (s : State) (a : Addr) : StoresRecorded s (s.freeByteAt a) [a] :=
  StoresRecorded.trans (s := s) (t := s.drawByte.2) (as := []) (.of_eq rfl rfl rfl)
    (storesRecorded_storeByte s.drawByte.2 a s.drawByte.1)

theorem memoryBut_freeWords : ∀ (n : Nat) (s : State) (a : Word), MemoryBut s (s.freeWords a n) (stackBytes a n)
  | 0, s, _ => .refl s _
  | n + 1, s, a => by
    rw [stackBytes_succ]
    exact ((memoryBut_freeByteAt s _).trans (memoryBut_freeByteAt _ _)).trans (memoryBut_freeWords n _ _)

theorem debugKept_freeWords : ∀ (n : Nat) (s : State) (a : Word), DebugKept s (s.freeWords a n)
  | 0, s, _ => .refl s
  | n + 1, s, a => by
    refine .trans ⟨?_, ?_, ?_⟩ (debugKept_freeWords n _ _) <;> simp

theorem wf_freeWords : ∀ (n : Nat) {s : State} (a : Word), s.mem.wf = true → (s.freeWords a n).mem.wf = true
  | 0, _, _, h => h
  | n + 1, _, _, h => wf_freeWords n _ (wf_freeByteAt (wf_freeByteAt h _) _)

theorem storesRecorded_freeWords : ∀ (n : Nat) (s : State) (a : Word),
    StoresRecorded s (s.freeWords a n) (stackBytes a n)
  | 0, s, _ => .refl s
  | n + 1, s, a => by
    rw [stackBytes_succ]
    exact ((storesRecorded_freeByteAt s _).trans (storesRecorded_freeByteAt _ _)).trans
      (storesRecorded_freeWords n _ _)

end Sys2Proof.Machine
end

