-- ==== Sys2Proof/Laws/Exceptions.lean ====
section
/-! SUPPORT. The steps of an exception entry, each said once: the frame and its words, the status, the debug
unit, the reads; the addresses of the interrupt stack as numbers (60_exceptions.md R262 to R265, R273). -/

namespace Sys2Proof.Machine

/-! ### Numbers -/

/-- The interrupt stack pointer moved by d (92_eei_decisions.md D4). -/
theorem ispPlus_eq (isp : Addr) (d : Word) : ispPlus isp d = stackAddr isp d.toNat := by
  apply BitVec.eq_of_toNat_eq
  have h1 := isp.isLt
  simp only [ispPlus, stackAddr, BitVec.toNat_setWidth, BitVec.toNat_add, BitVec.toNat_ofNat]
  omega

theorem State.frameBase_eq (s : State) : s.frameBase = stackAddr s.isp 65532 := ispPlus_eq _ _

/-- The second word of the frame. -/
theorem State.frameSecond_eq (s : State) : ispPlus s.frameBase 2#16 = stackAddr s.isp 65534 := by
  rw [State.frameBase_eq, ispPlus_eq]
  apply BitVec.eq_of_toNat_eq
  simp only [stackAddr, BitVec.toNat_ofNat]
  omega

theorem toNat_pcLow (a : Addr) : (a.extractLsb' 1 16).toNat = a.toNat / 2 % 2 ^ 16 := by
  rw [BitVec.extractLsb'_toNat, Nat.shiftRight_eq_div_pow]

/-- The high word of the frame as a number (60_exceptions.md R273). -/
theorem toNat_frameHigh (a : Addr) (psr : Word) :
    (frameHigh a psr).toNat = a.toNat / 2 ^ 17 * 4096 + psr.toNat % 4096 := by
  have h1 := a.isLt
  have hlt : (psr.extractLsb' 0 12).toNat < 2 ^ 12 := (psr.extractLsb' 0 12).isLt
  have e : (psr.extractLsb' 0 12).toNat = psr.toNat % 4096 := by
    rw [BitVec.extractLsb'_toNat, Nat.shiftRight_zero]
  have e2 : (a.extractLsb' 17 4).toNat = a.toNat / 2 ^ 17 := by
    rw [BitVec.extractLsb'_toNat, Nat.shiftRight_eq_div_pow]
    omega
  rw [frameHigh, BitVec.toNat_append, Nat.shiftLeft_eq, Nat.mul_comm, ← Nat.two_pow_add_eq_or_of_lt hlt, e, e2]
  omega

/-- The handler address as a number (60_exceptions.md R264). -/
theorem toNat_handlerOf (hi lo : Word) : (handlerOf hi lo).toNat = hi.toNat % 16 * 2 ^ 17 + lo.toNat * 2 := by
  have hl := lo.isLt
  have e : (hi.extractLsb' 0 4).toNat = hi.toNat % 16 := by
    rw [BitVec.extractLsb'_toNat, Nat.shiftRight_zero]
  have h0 : (0#1).toNat < 2 ^ 1 := by decide
  rw [handlerOf, BitVec.toNat_append, Nat.shiftLeft_eq, Nat.mul_comm, ← Nat.two_pow_add_eq_or_of_lt h0,
    BitVec.toNat_append, Nat.shiftLeft_eq, Nat.mul_comm _ (2 ^ 16), ← Nat.two_pow_add_eq_or_of_lt hl, e]
  simp only [BitVec.toNat_ofNat]
  omega

theorem handlerOf_bit0 (hi lo : Word) : (handlerOf hi lo).getLsbD 0 = false := by
  rw [handlerOf, BitVec.getLsbD_append]; rfl

/-! ### The frame -/

@[simp] theorem State.pushFrame_isp (s : State) (spc : Addr) : (s.pushFrame spc).isp = stackAddr s.isp 65532 := by
  rw [State.pushFrame, State.writeWord_isp, State.writeWord_isp, State.setIsp_isp, State.frameBase_eq]

/-- The state of a frame, its addresses as numbers. -/
theorem State.pushFrame_eq (s : State) (spc : Addr) :
    s.pushFrame spc = ((s.setIsp (stackAddr s.isp 65532)).writeWord (stackAddr s.isp 65532)
      (spc.extractLsb' 1 16)).writeWord (stackAddr s.isp 65534) (frameHigh spc s.psr) := by
  rw [State.pushFrame, State.frameSecond_eq, State.frameBase_eq]

/-- The four addresses of a frame, as one list of two words. -/
theorem frameBytes_eq (s : State) : frameBytes s =
    [stackAddr s.isp 65532, stackAddr s.isp 65532 + 1] ++ [stackAddr s.isp 65534, stackAddr s.isp 65534 + 1] := rfl

/-- Two words stored after ISP was set. -/
theorem setIsp_two_words (s : State) (p q : Addr) (v w : Word) :
    MemoryBut s (((s.setIsp p).writeWord p v).writeWord q w) ([p, p + 1] ++ [q, q + 1]) ∧
    DebugOfAccess s (((s.setIsp p).writeWord p v).writeWord q w) (writes ([p, p + 1] ++ [q, q + 1])) ∧
    StoresRecorded s (((s.setIsp p).writeWord p v).writeWord q w) ([p, p + 1] ++ [q, q + 1]) ∧
    (s.mem.wf = true → (((s.setIsp p).writeWord p v).writeWord q w).mem.wf = true) := by
  have m : MemoryBut s (s.setIsp p) [] := .of_mem rfl _
  have d : DebugOfAccess s (s.setIsp p) [] := DebugKept.access ⟨rfl, rfl, rfl⟩
  have r : StoresRecorded s (s.setIsp p) [] := .of_eq rfl rfl rfl
  exact ⟨(m.trans (memoryBut_writeWord _ p v)).trans (memoryBut_writeWord _ q w),
    (d.trans (debugOfAccess_writeWord _ p v)).trans (debugOfAccess_writeWord _ q w),
    (r.trans (storesRecorded_writeWord _ p v)).trans (storesRecorded_writeWord _ q w),
    fun h => wf_writeWord (wf_writeWord (s := s.setIsp p) h p v) q w⟩

theorem memoryBut_pushFrame (s : State) (spc : Addr) : MemoryBut s (s.pushFrame spc) (frameBytes s) := by
  rw [State.pushFrame_eq, frameBytes_eq]
  exact (setIsp_two_words s _ _ _ _).1

theorem debugOfAccess_pushFrame (s : State) (spc : Addr) :
    DebugOfAccess s (s.pushFrame spc) (writes (frameBytes s)) := by
  rw [State.pushFrame_eq, frameBytes_eq]
  exact (setIsp_two_words s _ _ _ _).2.1

theorem storesRecorded_pushFrame (s : State) (spc : Addr) :
    StoresRecorded s (s.pushFrame spc) (frameBytes s) := by
  rw [State.pushFrame_eq, frameBytes_eq]
  exact (setIsp_two_words s _ _ _ _).2.2.1

theorem wf_pushFrame {s : State} (h : s.mem.wf = true) (spc : Addr) : (s.pushFrame spc).mem.wf = true := by
  rw [State.pushFrame_eq]
  exact (setIsp_two_words s _ _ _ _).2.2.2 h

/-- The two words of the frame are apart. -/
theorem frame_apart (isp : Addr) :
    stackAddr isp 65532 ≠ stackAddr isp 65534 ∧ stackAddr isp 65532 ≠ stackAddr isp 65534 + 1 ∧
    stackAddr isp 65532 + 1 ≠ stackAddr isp 65534 ∧ stackAddr isp 65532 + 1 ≠ stackAddr isp 65534 + 1 := by
  have e1 : (stackAddr isp 65532).toNat = (isp.toNat + 65532) % 65536 := by
    simp only [stackAddr, BitVec.toNat_ofNat]; omega
  have e2 : (stackAddr isp 65534).toNat = (isp.toNat + 65534) % 65536 := by
    simp only [stackAddr, BitVec.toNat_ofNat]; omega
  have e3 : (stackAddr isp 65532 + 1).toNat = (isp.toNat + 65532) % 65536 + 1 := by
    rw [BitVec.toNat_add, e1]; change (_ + 1) % 2097152 = _; omega
  have e4 : (stackAddr isp 65534 + 1).toNat = (isp.toNat + 65534) % 65536 + 1 := by
    rw [BitVec.toNat_add, e2]; change (_ + 1) % 2097152 = _; omega
  refine ⟨fun h => ?_, fun h => ?_, fun h => ?_, fun h => ?_⟩ <;> have h := congrArg BitVec.toNat h <;> omega

theorem notMem_pair {x a b : Addr} (h1 : x ≠ a) (h2 : x ≠ b) : x ∉ [a, b] := fun h =>
  (List.mem_cons.1 h).elim h1 fun h => h2 (List.mem_singleton.1 h)

/-- Two words stored apart after ISP was set, read back. -/
theorem wordAt_two_words {s : State} (h : s.mem.wf = true) (p q : Addr) (v w : Word) (rp : s.ramWord p)
    (rq : s.ramWord q) (n1 : p ≠ q) (n2 : p ≠ q + 1) (n3 : p + 1 ≠ q) (n4 : p + 1 ≠ q + 1) :
    (((s.setIsp p).writeWord p v).writeWord q w).wordAt p = v.toNat ∧
    (((s.setIsp p).writeWord p v).writeWord q w).wordAt q = w.toNat := by
  have h1 : ((s.setIsp p).writeWord p v).mem.wf = true := wf_writeWord (s := s.setIsp p) h p v
  have w1 : ((s.setIsp p).writeWord p v).wordAt p = v.toNat :=
    (wordStored_writeWord (s := s.setIsp p) h p v).wordAt rp
  have rq' : ((s.setIsp p).writeWord p v).ramWord q :=
    ⟨(State.isRam_of_platform (by simp) _).2 rq.1, (State.isRam_of_platform (by simp) _).2 rq.2⟩
  have m := memoryBut_writeWord ((s.setIsp p).writeWord p v) q w
  refine ⟨?_, (wordStored_writeWord h1 q w).wordAt rq'⟩
  rw [State.wordAt, m p (notMem_pair n1 n2), m (p + 1) (notMem_pair n3 n4)]
  exact w1

/-- The words of the frame where RAM stands (60_exceptions.md R273). -/
theorem wordAt_pushFrame {s : State} (h : s.mem.wf = true) (hr : ∀ a ∈ frameBytes s, s.isRam a) (spc : Addr) :
    (s.pushFrame spc).wordAt (stackAddr s.isp 65532) = spc.toNat / 2 % 2 ^ 16 ∧
    (s.pushFrame spc).wordAt (stackAddr s.isp 65534) = spc.toNat / 2 ^ 17 * 4096 + s.psr.toNat % 4096 := by
  obtain ⟨n1, n2, n3, n4⟩ := frame_apart s.isp
  rw [State.pushFrame_eq, ← toNat_pcLow, ← toNat_frameHigh]
  rw [frameBytes_eq] at hr
  generalize stackAddr s.isp 65532 = p at *
  generalize stackAddr s.isp 65534 = q at *
  exact wordAt_two_words h p q _ _ ⟨hr p (by simp), hr (p + 1) (by simp)⟩
    ⟨hr q (by simp), hr (q + 1) (by simp)⟩ n1 n2 n3 n4

/-! ### The status and the debug unit -/

/-- The bits an entry clears after saving, bit by bit (60_exceptions.md R265). -/
theorem getLsbD_psrAfterSave (x : Exception) (psr : Word) (k : Nat) :
    (psrAfterSave x psr).getLsbD k = (psr.getLsbD k && decide (k ∉ clearedAfter x)) := by
  have hi : psrI = 11 := rfl
  have hp : psrP = 10 := rfl
  have ht : psrT = 1 := rfl
  cases x <;> simp only [psrAfterSave, getLsbD_withBit, clearedAfter, hi, hp, ht] <;>
    by_cases h1 : k = 1 <;> by_cases h2 : k = 10 <;> by_cases h3 : k = 11 <;> simp [h1, h2, h3]

/-- The saved PSR, bit by bit: TRC saves P as 0 (60_exceptions.md R259, R265). -/
theorem getLsbD_psrToSave (x : Exception) (psr : Word) (k : Nat) :
    (psrToSave x psr).getLsbD k = (psr.getLsbD k && !decide (x = .trc ∧ k = psrP)) := by
  have hp : psrP = 10 := rfl
  cases x <;> simp only [psrToSave, getLsbD_withBit, hp] <;> by_cases h : k = 10 <;> simp [h]

/-- A bit cleared, as a number. -/
theorem toNat_withBit_false (w : Word) {k : Nat} (h : k < 16) :
    (withBit w k false).toNat = w.toNat - (if w.getLsbD k then 2 ^ k else 0) := by
  cases hb : w.getLsbD k
  · rw [← hb, withBit_getLsbD w h, hb]; simp
  · have hz : withBit w k false &&& BitVec.twoPow 16 k = 0#16 := by
      simp [withBit, BitVec.and_assoc]
    have e : withBit w k false + BitVec.twoPow 16 k = w := by
      rw [BitVec.add_eq_or_of_and_eq_zero _ _ hz]
      refine BitVec.eq_of_getLsbD_eq fun j hj => ?_
      rw [BitVec.getLsbD_or, getLsbD_withBit, BitVec.getLsbD_twoPow]
      by_cases hjk : k = j
      · subst hjk; simp [h, hb]
      · simp [hjk, Ne.symm hjk]
    have := congrArg BitVec.toNat e
    rw [BitVec.toNat_add_of_and_eq_zero hz, BitVec.toNat_twoPow, Nat.mod_eq_of_lt (Nat.pow_lt_pow_right (by omega) h)] at this
    simp only [if_true]
    omega

/-- What step 5 does to the debug unit (60_exceptions.md R262, R283). -/
theorem State.settleDebug_cases (s : State) (x : Exception) :
    (x ≠ .dbg ∧ s.settleDebug x = s) ∨
    (x = .dbg ∧ (s.dcr.getLsbD dcrEfb && s.pins.tag) = false ∧ s.settleDebug x = s.setDbgPending false) ∨
    (x = .dbg ∧ (s.dcr.getLsbD dcrEfb && s.pins.tag) = true ∧ s.settleDebug x =
      ((s.setDbgPending false).setDsr (withBit s.dsr dsrExf true)).setDcr (withBit s.dcr dcrEfb false)) := by
  cases x
  case dbg =>
    unfold State.settleDebug
    cases h : (s.dcr.getLsbD dcrEfb && s.pins.tag) <;> simp_all
  all_goals exact .inl ⟨by simp, rfl⟩

/-- Step 5 as the relation of Safety.lean. -/
theorem settled_settleDebug (s : State) (x : Exception) :
    s.debugUnit.Settled x s.pins.tag (s.settleDebug x).debugUnit := by
  rcases s.settleDebug_cases x with ⟨hx, e⟩ | ⟨hx, ht, e⟩ | ⟨hx, ht, e⟩ <;> rw [e]
  · exact ⟨fun _ => rfl, fun h => absurd h hx⟩
  · have nt : ¬ (s.pins.tag = true ∧ s.dcr.getLsbD dcrEfb = true) := fun h => by
      rw [h.1, h.2] at ht
      cases ht
    refine ⟨fun h => absurd hx h, fun _ => ⟨rfl, fun k => ?_, fun k => ?_⟩⟩
    · show s.dsr.getLsbD k = (s.dsr.getLsbD k || decide (k = dsrExf ∧ s.pins.tag = true ∧ s.dcr.getLsbD dcrEfb = true))
      rw [decide_eq_false fun h => nt h.2, Bool.or_false]
    · show s.dcr.getLsbD k = (s.dcr.getLsbD k && !decide (k = dcrEfb ∧ s.pins.tag = true))
      by_cases hk : k = dcrEfb ∧ s.pins.tag = true
      · have : s.dcr.getLsbD k = false := by
          rw [hk.1, ← Bool.not_eq_true]
          exact fun h => nt ⟨hk.2, h⟩
        rw [this, Bool.false_and]
      · rw [decide_eq_false hk, Bool.not_false, Bool.and_true]
  · rw [Bool.and_eq_true] at ht
    refine ⟨fun h => absurd hx h, fun _ => ⟨rfl, fun k => ?_, fun k => ?_⟩⟩
    · show (withBit s.dsr dsrExf true).getLsbD k =
        (s.dsr.getLsbD k || decide (k = dsrExf ∧ s.pins.tag = true ∧ s.dcr.getLsbD dcrEfb = true))
      have h3 : dsrExf < 16 := by decide
      rw [getLsbD_withBit]
      by_cases hk : k = dsrExf <;> simp [hk, ht.1, ht.2, h3]
    · show (withBit s.dcr dcrEfb false).getLsbD k = (s.dcr.getLsbD k && !decide (k = dcrEfb ∧ s.pins.tag = true))
      have h8 : dcrEfb < 16 := by decide
      rw [getLsbD_withBit]
      by_cases hk : k = dcrEfb <;> simp [hk, ht.2, h8]

/-- The acknowledge read as the relation of Safety.lean (60_exceptions.md R263, R281). -/
theorem debugOfAccess_acknowledge (s : State) (x : Exception) :
    DebugOfAccess s (s.acknowledge x) (reads (acknowledgeBytes s x)) := by
  have optional : ∀ (k : Nat) (a : Addr), (x ≠ .int) →
      acknowledgeAt x s.dcr = (if s.dcr.getLsbD k then some a else none) →
      acknowledgeBytes s x = (if s.dcr.getLsbD k then [a] else []) →
      DebugOfAccess s (s.acknowledge x) (reads (acknowledgeBytes s x)) := fun k a hx h1 h2 => by
    unfold State.acknowledge
    rw [h1, h2]
    cases s.dcr.getLsbD k
    · exact .refl s
    · cases x <;> first | exact absurd rfl hx | exact debugOfAccess_readByte s a
  cases x
  case int => exact debugOfAccess_noteAccess s .read _
  case nmi => exact debugOfAccess_readByte s _
  case ise => exact debugOfAccess_readByte s _
  case dbg => exact optional 12 _ (by decide) rfl rfl
  case trc => exact optional 11 _ (by decide) rfl rfl
  case bpt => exact optional 10 _ (by decide) rfl rfl
  all_goals exact .refl s

/-- The emulator's dispatch is selected as the statements say (60_exceptions.md R285). -/
theorem usesAlternate_iff (s : State) (x : Exception) : usesAlternate x s.dcr = true ↔ alternate s x := by
  cases x <;> simp [usesAlternate, alternate, dcrAise, dcrAdbg, dcrAtrc, dcrAbpt]

/-- The entry's address under the emulator's dispatch: INTBASE counts as 0 (60_exceptions.md R264, R285). -/
theorem State.entryAddress_alternate {s : State} {x : Exception} (h : usesAlternate x s.dcr = true) :
    s.entryAddress x = BitVec.ofNat 21 (vectorOf x s.pins.icuVector * 4) := by
  unfold State.entryAddress
  rw [h, BitVec.ofNat_mul]
  rfl

/-- The entry's address with 32-bit entries (10_state.md R38; 92_eei_decisions.md D2). -/
theorem State.entryAddress_wide {s : State} {x : Exception} (h : usesAlternate x s.dcr = false)
    (he : s.cfgEd = true) :
    s.entryAddress x = BitVec.ofNat 21 ((s.intbase.toNat + vectorOf x s.pins.icuVector * 4) % 2 ^ 21) := by
  unfold State.entryAddress
  rw [h, he]
  generalize vectorOf x s.pins.icuVector = v
  simp only [Bool.false_eq_true, if_false, if_true]
  apply BitVec.eq_of_toNat_eq
  rw [BitVec.toNat_add, BitVec.toNat_mul, BitVec.toNat_ofNat, BitVec.toNat_ofNat, BitVec.toNat_ofNat]
  omega

/-- The entry's address with 16-bit entries (10_state.md R38; 92_eei_decisions.md D2). -/
theorem State.entryAddress_narrow {s : State} {x : Exception} (h : usesAlternate x s.dcr = false)
    (he : s.cfgEd = false) :
    s.entryAddress x = BitVec.ofNat 21 ((s.intbase.toNat % 2 ^ 16 + vectorOf x s.pins.icuVector * 2) % 2 ^ 21) := by
  unfold State.entryAddress
  rw [h, he]
  generalize vectorOf x s.pins.icuVector = v
  simp only [Bool.false_eq_true, if_false]
  apply BitVec.eq_of_toNat_eq
  have e : (0#5 ++ s.intbase.extractLsb' 0 16).toNat = s.intbase.toNat % 2 ^ 16 := by
    rw [BitVec.toNat_append, BitVec.extractLsb'_toNat]
    simp
  rw [BitVec.toNat_add, e, BitVec.toNat_mul, BitVec.toNat_ofNat, BitVec.toNat_ofNat, BitVec.toNat_ofNat]
  omega

/-- The reads of a dispatch entry at address a. -/
theorem State.readHandler_cases (s : State) (x : Exception) :
    (s.wideEntry x = false ∧ s.readHandler x =
      (handlerOf 0 (s.readWord (s.entryAddress x)).1, (s.readWord (s.entryAddress x)).2)) ∨
    (s.wideEntry x = true ∧ s.readHandler x =
      (handlerOf ((s.readWord (s.entryAddress x)).2.readWord (s.entryAddress x + 2#21)).1
        (s.readWord (s.entryAddress x)).1,
       ((s.readWord (s.entryAddress x)).2.readWord (s.entryAddress x + 2#21)).2)) := by
  unfold State.readHandler
  cases h : s.wideEntry x
  · exact .inl ⟨rfl, rfl⟩
  · exact .inr ⟨rfl, rfl⟩

theorem vectorOf_eq (x : Exception) (b : Byte) : vectorOf x b = vectorNumber x b := by cases x <;> rfl

/-- The address of the dispatch entry is that of the statements. -/
theorem State.entryAddress_eq (s : State) (x : Exception) : s.entryAddress x = dispatchAt s x := by
  have hv : ∀ n, (BitVec.ofNat 21 (n % 2 ^ 21) : Addr) = BitVec.ofNat 21 n := fun n => by
    apply BitVec.eq_of_toNat_eq
    simp
  have hi := usesAlternate_iff s x
  unfold dispatchAt
  rw [← vectorOf_eq]
  cases ha : usesAlternate x s.dcr
  · rw [ha] at hi
    rw [if_neg fun h => absurd (hi.2 h) (by decide)]
    cases he : s.cfgEd
    · rw [State.entryAddress_narrow ha he, hv]; rfl
    · rw [State.entryAddress_wide ha he, hv]; rfl
  · rw [if_pos (hi.1 ha), State.entryAddress_alternate ha]

theorem State.wideEntry_iff (s : State) (x : Exception) :
    s.wideEntry x = true ↔ alternate s x ∨ s.cfgEd = true := by
  rw [State.wideEntry, Bool.or_eq_true, usesAlternate_iff]

theorem debugOfAccess_readHandler (s : State) (x : Exception) :
    DebugOfAccess s (s.readHandler x).2 (reads (dispatchBytes s x)) := by
  have hw := s.wideEntry_iff x
  unfold dispatchBytes
  rcases s.readHandler_cases x with ⟨h0, h⟩ | ⟨h0, h⟩ <;> rw [h, State.entryAddress_eq] <;> rw [h0] at hw <;>
    generalize dispatchAt s x = a
  · rw [if_neg fun h => absurd (hw.2 h) (by decide)]
    exact debugOfAccess_readWord s a
  · rw [if_pos (hw.1 rfl), reads_append]
    exact (debugOfAccess_readWord s a).trans (debugOfAccess_readWord (s.readWord a).2 (a + 2#21))

/-! ### The whole entry -/

/-- Memory after an entry is memory after its frame. -/
@[simp] theorem State.takeException_mem (s : State) (x : Exception) (spc : Addr) :
    (s.takeException x spc).mem = ((s.setPsr (psrToSave x s.psr)).pushFrame spc).mem := by
  simp [State.takeException, State.saveContext]

@[simp] theorem State.takeException_written (s : State) (x : Exception) (spc : Addr) :
    (s.takeException x spc).written = ((s.setPsr (psrToSave x s.psr)).pushFrame spc).written := by
  simp [State.takeException, State.saveContext]

@[simp] theorem State.takeException_psr (s : State) (x : Exception) (spc : Addr) :
    (s.takeException x spc).psr = psrAfterSave x (psrToSave x s.psr) := by
  simp [State.takeException, State.saveContext]

@[simp] theorem State.takeException_isp (s : State) (x : Exception) (spc : Addr) :
    (s.takeException x spc).isp = stackAddr s.isp 65532 := by
  simp [State.takeException, State.saveContext]

@[simp] theorem State.takeException_opState (s : State) (x : Exception) (spc : Addr) :
    (s.takeException x spc).opState = .executing := by
  simp [State.takeException]

@[simp] theorem State.takeException_stale (s : State) (x : Exception) (spc : Addr) :
    (s.takeException x spc).stale = [] := by
  simp [State.takeException]

theorem State.takeException_pc (s : State) (x : Exception) (spc : Addr) :
    (s.takeException x spc).pc = evenAddr (((s.saveContext x spc).acknowledge x).readHandler x).1 := by
  simp [State.takeException]

theorem wf_takeException {s : State} (h : s.mem.wf = true) (x : Exception) (spc : Addr) :
    (s.takeException x spc).mem.wf = true := by
  rw [State.takeException_mem]
  exact wf_pushFrame (s := s.setPsr (psrToSave x s.psr)) h spc

theorem storesRecorded_takeException (s : State) (x : Exception) (spc : Addr) :
    StoresRecorded s (s.takeException x spc) (frameBytes s) := by
  have h0 : StoresRecorded s (s.setPsr (psrToSave x s.psr)) [] := .of_eq rfl rfl rfl
  exact ((h0.trans (storesRecorded_pushFrame _ spc)).trans (.of_eq (by simp) (by simp) (by simp))).mono (by
    rw [List.append_nil]
    exact List.Subset.refl _)

/-! ### The return -/

/-- The state after the two reads of a return, before its registers are written. -/
theorem debugOfAccess_returnFromException (s : State) :
    DebugOfAccess s s.returnFromException (reads (wordBytes (stackAddr s.isp 0) ++ wordBytes (stackAddr s.isp 2))) := by
  have e0 : ispPlus s.isp 0#16 = stackAddr s.isp 0 := ispPlus_eq _ _
  have e2 : ispPlus s.isp 2#16 = stackAddr s.isp 2 := ispPlus_eq _ _
  have h := (debugOfAccess_readWord s (ispPlus s.isp 0#16)).trans
    (debugOfAccess_readWord (s.readWord (ispPlus s.isp 0#16)).2 (ispPlus s.isp 2#16))
  rw [← e0, ← e2, reads_append]
  exact h.of_eq rfl rfl rfl

@[simp] theorem State.returnFromException_isp (s : State) :
    s.returnFromException.isp = stackAddr s.isp 4 := by
  have h : ispPlus s.isp 4#16 = stackAddr s.isp 4 := ispPlus_eq _ _
  unfold State.returnFromException
  rw [h]
  rfl

@[simp] theorem State.returnFromException_stale (s : State) : s.returnFromException.stale = [] := rfl

end Sys2Proof.Machine
end

