-- ==== Sys2Proof/Laws/Encoding.lean ====
section
/-! SUPPORT. Fields and words: cutting a word into its fields and putting it together are inverse, and so are
the codes of registers, restricted registers and conditions (30_encoding.md R91, R109; 10_state.md R21, R24). -/

namespace Sys2Proof

/-- The bits of a word put together from fields, by place. -/
theorem getLsbD_wordOf (f : Fields) (k : Nat) : (wordOf f).getLsbD k =
    if k = 0 then f.b0 else if k < 5 then f.op1.getLsbD (k - 1) else if k < 9 then f.op2.getLsbD (k - 5)
    else if k < 13 then f.op4.getLsbD (k - 9) else if k = 13 then f.i else if k = 14 then f.b14
    else if k = 15 then f.b15 else false := by
  by_cases hk : k < 16
  · simp only [wordOf, BitVec.getLsbD_append]
    interval_cases k <;> simp
  · rw [BitVec.getLsbD_of_ge _ _ (by omega)]
    have h : k ≠ 0 ∧ ¬ k < 5 ∧ ¬ k < 9 ∧ ¬ k < 13 ∧ k ≠ 13 ∧ k ≠ 14 ∧ k ≠ 15 := by omega
    simp [h]

/-- The fields of a word put together from fields. -/
@[simp] theorem fieldsOf_wordOf (f : Fields) : fieldsOf (wordOf f) = f := by
  cases f with
  | mk b15 b14 i op4 op2 op1 b0 =>
    simp only [fieldsOf, Fields.mk.injEq]
    refine ⟨?_, ?_, ?_, ?_, ?_, ?_, ?_⟩
    · rw [getLsbD_wordOf]; rfl
    · rw [getLsbD_wordOf]; rfl
    · rw [getLsbD_wordOf]; rfl
    all_goals
      first
      | (refine BitVec.eq_of_getLsbD_eq fun k hk => ?_
         rw [BitVec.getLsbD_extractLsb', getLsbD_wordOf]
         interval_cases k <;> simp)
      | (rw [getLsbD_wordOf]; rfl)

/-- A word put together from its fields. -/
@[simp] theorem wordOf_fieldsOf (w : Word) : wordOf (fieldsOf w) = w := by
  refine BitVec.eq_of_getLsbD_eq fun k hk => ?_
  rw [getLsbD_wordOf]
  interval_cases k <;> simp [fieldsOf]

@[simp] theorem regOf_regBits (r : Reg) : regOf (regBits r) = r := rfl

@[simp] theorem regBits_regOf (b : BitVec 4) : regBits (regOf b) = b := rfl

@[simp] theorem restrictedOf_bits (r : Restricted) : restrictedOf (restrictedB3 r) (restrictedB0 r) = r := by
  cases r <;> rfl

@[simp] theorem restrictedB3_of (b3 b0 : Bool) : restrictedB3 (restrictedOf b3 b0) = b3 := by
  cases b3 <;> cases b0 <;> rfl

@[simp] theorem restrictedB0_of (b3 b0 : Bool) : restrictedB0 (restrictedOf b3 b0) = b0 := by
  cases b3 <;> cases b0 <;> rfl

@[simp] theorem condOf_condCode (c : Cond) : condOf (condCode c) = some c := by cases c <;> rfl

/-- The extension field and the two register bits of op2 (30_encoding.md R98, R108). -/
theorem encExt_fields (ext : BitVec 2) (b3 b0 : Bool) :
    (encExt ext b3 b0).getLsbD 3 = b3 ∧ (encExt ext b3 b0).getLsbD 0 = b0 ∧
    (encExt ext b3 b0).extractLsb' 1 2 = ext := by
  revert ext b3 b0; decide

/-- The op2 field of a count row (30_encoding.md R111). -/
theorem encCount_fields (b8 b7 : Bool) (rcnt : BitVec 2) :
    (encCount b8 b7 rcnt).getLsbD 3 = b8 ∧ (encCount b8 b7 rcnt).getLsbD 2 = b7 ∧
    (encCount b8 b7 rcnt).extractLsb' 0 2 = rcnt := by
  revert rcnt b8 b7; decide

/-- Two bytes put together and cut apart (20_memory.md R62). -/
theorem bytesOfWord_wordOfBytes (lo hi : Byte) : bytesOfWord (wordOfBytes lo hi) = [lo, hi] := by
  rw [bytesOfWord, wordOfBytes, Machine.low_append, Machine.high_append]

/-- A word cut into bytes and put together (20_memory.md R62). -/
theorem wordOfBytes_halves (w : Word) : wordOfBytes (w.extractLsb' 0 8) (w.extractLsb' 8 8) = w :=
  Machine.append_halves w

/-- The words of the bytes of words. -/
theorem wordsOfBytes_flatMap : ∀ ws : List Word, wordsOfBytes (ws.flatMap bytesOfWord) = ws
  | [] => rfl
  | w :: ws => by
    show wordOfBytes _ _ :: wordsOfBytes (ws.flatMap bytesOfWord) = _
    rw [wordOfBytes_halves, wordsOfBytes_flatMap ws]

end Sys2Proof
end

