-- ==== Sys2Proof/Laws/Steps.lean ====
section
/-! SUPPORT. What a step can do, said once: the reset input, an exception at the boundary, waiting, an
undefined instruction, or one instruction (60_exceptions.md R270 to R272; 70_reset_and_hazards.md R300, R301). -/

namespace Sys2Proof.Machine

/-! ### Fetch -/

/-- Where RAM or ROM stands and no byte is marked, a fetch gives the word that stands there. -/
theorem State.fetchWord_unmarked {s : State} {a : Addr} (hs : s.storedWord a) (h0 : s.marked a = false)
    (h1 : s.marked (a + 1) = false) : s.fetchWord a = (wordOfBytes (s.byteAt a) (s.byteAt (a + 1)), s) := by
  have e : s.fetchChoice a = (false, s) := by
    unfold State.fetchChoice; rw [h0, h1]; rfl
  unfold State.fetchWord
  rw [e]
  simp only [State.fetchByte, Bool.false_eq_true, if_false, State.loadByte_stored hs.1, State.loadByte_stored hs.2]

theorem toNat_wordOfBytes (lo hi : Byte) : (wordOfBytes lo hi).toNat = lo.toNat + 256 * hi.toNat := by
  rw [wordOfBytes, toNat_append8]; omega

/-- A fetch uses free values and changes nothing else. -/
theorem State.fetch_state (s : State) : s.fetch.2 = s.setFresh s.fetch.2.fresh := by
  apply State.ext_fields <;> simp

/-! ### The step -/

/-- Without a reset and with nothing due at the boundary, a step executes the instruction at pc. -/
theorem step_quiet {s : State} (h : s.quietStep) : step s = s.sample.executeInstruction := by
  obtain ⟨ho, ⟨hr, hi⟩, hb⟩ := h
  have e : s.sample.coreStep = s.sample.executeInstruction := by
    unfold State.coreStep
    rw [State.sample_opState, ho]
    simp only [State.runStep, hb]
  unfold step State.cycle State.sampledStep
  rw [hr, hi, e]
  cases s.sample.executeInstruction <;> rfl

/-- A step that answers a next state: a reset step, or a step of the core, perhaps with a reset inside. -/
theorem step_cases {s t : State} (h : step s = .next t) :
    (s.sample.pins.reset = true ∧ t = s.sample.resetStep) ∨
    (s.sample.pins.reset = false ∧ ∃ c, s.sample.coreStep = .next c ∧
      t = if s.sample.pins.resetInside then s.sample.resetDuring c else c) := by
  unfold step State.cycle State.sampledStep at h
  cases hr : s.sample.pins.reset
  · rw [hr] at h
    refine .inr ⟨rfl, ?_⟩
    cases hc : s.sample.coreStep with
    | next c => rw [hc] at h; exact ⟨c, rfl, by simpa using h.symm⟩
    | fault f => rw [hc] at h; simp at h
    | refused r => rw [hc] at h; simp at h
  · rw [hr] at h
    exact .inl ⟨rfl, by simpa using h.symm⟩

/-- A step of the core that answers a next state: nothing, an exception at the boundary, or an instruction;
v is the state with a released reset taken note of. -/
theorem State.coreStep_cases {s c : State} (h : s.coreStep = .next c) :
    (s.opState = .waiting ∧ c = s) ∨
    (∃ v, (v = s ∨ v = s.setOpState .executing) ∧
      ((∃ x, c = v.takeException x v.pc) ∨ v.executeInstruction = .next c)) := by
  have run : ∀ v : State, v.runStep = .next c →
      (∃ x, c = v.takeException x v.pc) ∨ v.executeInstruction = .next c := fun v hv => by
    unfold State.runStep at hv
    split at hv
    · rename_i x _
      exact .inl ⟨x, by simpa using hv.symm⟩
    · exact .inr hv
  unfold State.coreStep at h
  split at h
  · rename_i ho
    unfold State.waitStep at h
    split at h
    · rename_i x _
      exact .inr ⟨s, .inl rfl, .inl ⟨x, by simpa using h.symm⟩⟩
    · exact .inl ⟨ho, by simpa using h.symm⟩
  · exact .inr ⟨s, .inl rfl, run s h⟩
  · exact .inr ⟨_, .inr rfl, run _ h⟩

/-- An executed instruction that answers a next state: the UND trap, or exec of what was fetched. -/
theorem State.executeInstruction_cases {s c : State} (h : s.executeInstruction = .next c) :
    (∃ e, s.beginInstruction.fetch.1 = .error e ∧ c = s.beginInstruction.fetch.2.takeException .und s.pc) ∨
    (∃ i, s.beginInstruction.fetch.1 = .ok i ∧ exec i s.beginInstruction.fetch.2 = .next c) := by
  unfold State.executeInstruction at h
  cases hf : s.beginInstruction.fetch.1 with
  | ok i => simp only [hf] at h; exact .inr ⟨i, rfl, h⟩
  | error e => simp only [hf] at h; exact .inl ⟨e, rfl, by simpa using h.symm⟩

/-- Where the core executes and nothing is due at the boundary, the step starts an instruction. -/
theorem State.startsInstruction_iff (s : State) :
    s.startsInstruction = true ↔ s.opState ≠ .waiting ∧ s.boundaryException = none := by
  simp [State.startsInstruction]

/-! ### Reset -/

/-- A reset inside a step is a reset of the instruction it started, or the reset event on what it did. -/
theorem State.resetDuring_cases (s t : State) :
    (s.startsInstruction = true ∧ s.resetDuring t = s.beginInstruction.resetInside t s.flagsAtStake) ∨
    (s.startsInstruction = false ∧ s.resetDuring t = t.resetEvent) := by
  unfold State.resetDuring
  cases s.startsInstruction <;> simp

/-- The listed flags that PSR defines are set in the mask. -/
theorem getLsbD_flagMask (ks : List Nat) (k : Nat) :
    (flagMask ks).getLsbD k = (decide (k ∈ ks) && psrDefined.getLsbD k) := by
  have e : ∀ ks : List Nat, (ks.foldr (fun k m => withBit m k true) (0 : Word)).getLsbD k =
      (decide (k ∈ ks) && decide (k < 16)) := fun ks => by
    induction ks with
    | nil => simp
    | cons j js ih =>
      rw [List.foldr_cons, getLsbD_withBit, ih]
      by_cases h : k = j <;> by_cases h2 : k < 16 <;> simp [h, h2]
  rw [flagMask, BitVec.getLsbD_and, e]
  by_cases h : k < 16
  · simp [h]
  · rw [BitVec.getLsbD_of_ge psrDefined k (by omega)]
    simp
/-- Where an instruction stores does not depend on the count of free values. -/
theorem storedBytes_setFresh (i : Instr) (s : State) (n : Nat) : storedBytes i (s.setFresh n) = storedBytes i s := by
  have h1 : ∀ r d, (s.setFresh n).eaDisp5 r d = s.eaDisp5 r d := fun _ _ => rfl
  have h2 : ∀ r d, (s.setFresh n).eaDisp18 r d = s.eaDisp18 r d := fun _ _ => rfl
  have h3 : ∀ r d, (s.setFresh n).eaFar r d = s.eaFar r d := fun _ _ => rfl
  have h4 : ∀ r, (s.setFresh n).eaBase r = s.eaBase r := fun _ => rfl
  have h5 : ∀ r d, (s.setFresh n).eaDisp16 r d = s.eaDisp16 r d := fun _ _ => rfl
  have h6 : ∀ c r, openStack (s.setFresh n) c r = openStack s c r := fun _ _ => rfl
  have h7 : frameBytes (s.setFresh n) = frameBytes s := rfl
  have h8 : ∀ r, (s.setFresh n).reg r = s.reg r := fun _ => rfl
  have h9 : (s.setFresh n).acceptedInterrupt (s.setFresh n).pins.duringMul =
      s.acceptedInterrupt s.pins.duringMul := rfl
  unfold storedBytes
  simp only [h1, h2, h3, h4, h5, h6, h7, h8, h9]

/-- A scramble changes memory and the counter of free values only. -/
theorem State.scrambleBytes_wf : ∀ (as : List Nat) {s : State}, (∀ a ∈ as, a < 2 ^ 21) → s.mem.wf = true →
    (State.scrambleBytes as s).mem.wf = true
  | [], _, _, h => h
  | a :: as, _, ha, h =>
    State.scrambleBytes_wf as (fun b hb => ha b (by simp [hb])) (wf_memWrite h (ha a (by simp)) _)

@[simp] theorem State.scrambleBytes_platform : ∀ (as : List Nat) (s : State),
    (State.scrambleBytes as s).platform = s.platform
  | [], _ => rfl
  | _ :: as, _ => State.scrambleBytes_platform as _

@[simp] theorem State.resetInto_mem (s : State) (a b : Word) : (s.resetInto a b).mem = s.mem := rfl
@[simp] theorem State.resetInto_platform (s : State) (a b : Word) : (s.resetInto a b).platform = s.platform := rfl
@[simp] theorem State.resetInto_pc (s : State) (a b : Word) : (s.resetInto a b).pc = 0 := rfl
@[simp] theorem State.resetInto_opState (s : State) (a b : Word) : (s.resetInto a b).opState = .reset := rfl

end Sys2Proof.Machine
end

