-- ==== Sys2Proof/Laws/Effects.lean ====
section
/-! SUPPORT. What each shared operation of Flags.lean and of the families answers, in the terms of Safety.lean:
the result, the flags, the frame. A statement about an instruction is this lemma at its operands. -/

namespace Sys2Proof.Machine

/-! ### Operands as numbers -/

theorem toNat_regByte (s : State) (r : Reg) : (s.regByte r).toNat = s.low 8 r := by
  rw [State.regByte, toNat_low8]; rfl

theorem low_16 (s : State) (r : Reg) : s.low 16 r = (s.reg r).toNat := by
  have := (s.reg r).isLt
  unfold State.low
  omega

/-- The two's-complement value of n bits (41_arithmetic.md R140). -/
theorem toInt_eq_signedOf {n : Nat} (hn : 0 < n) (a : BitVec n) : a.toInt = signedOf n a.toNat := by
  have h := a.isLt
  rw [BitVec.toInt_eq_toNat_cond, signedOf]
  have : 2 ^ n = 2 * 2 ^ (n - 1) := by rw [← Nat.pow_succ']; congr 1; omega
  split <;> split
  · rfl
  · omega
  · omega
  · push_cast; rfl

/-- The short immediate as a byte operand (30_encoding.md R95). -/
theorem toNat_immByte_short (imm : BitVec 5) : (immByte (shortImm imm)).toNat = (imm.toInt % 2 ^ 8).toNat := by
  revert imm; decide

/-- The short immediate as a word operand (30_encoding.md R95). -/
theorem toNat_shortImm (imm : BitVec 5) : (shortImm imm).toNat = (imm.toInt % 2 ^ 16).toNat := by
  revert imm; decide

/-- The medium immediate as a byte operand (30_encoding.md R96). -/
theorem toNat_immByte (imm : Word) : (immByte imm).toNat = imm.toNat % 2 ^ 8 := toNat_low8 imm

/-! ### Registers and the PC -/

theorem writesLow_setRegByte (s : State) (d : Reg) (v : Byte) : WritesLow s (s.setRegByte d v) 8 d v.toNat := by
  unfold WritesLow
  rw [State.reg_setRegByte, if_pos rfl, toNat_append8, toNat_high8]
  rfl

theorem writesLow_setReg (s : State) (d : Reg) (v : Word) : WritesLow s (s.setReg d v) 16 d v.toNat := by
  unfold WritesLow
  rw [State.reg_setReg_self]
  have := (s.reg d).isLt
  omega

theorem regsBut_setRegByte (s : State) (d : Reg) (v : Byte) : RegsBut s (s.setRegByte d v) [d] := fun r hr => by
  rw [State.reg_setRegByte, if_neg (by simpa using hr)]

/-- A byte write leaves the high byte (10_state.md R22). -/
theorem high_setRegByte (s : State) (d : Reg) (v : Byte) :
    ((s.setRegByte d v).reg d).toNat / 2 ^ 8 = (s.reg d).toNat / 2 ^ 8 := by
  rw [State.reg_setRegByte, if_pos rfl, toNat_append8, toNat_high8]
  omega

/-- The PC after an instruction of len bytes (10_state.md R27). -/
theorem pcAfter_advance (s : State) {u : State} (h : u.pc = s.pc) (len : Nat) :
    PcAfter s (u.advance (BitVec.ofNat 21 len)) len := by
  unfold PcAfter
  rw [toNat_advance_pc, h]
  simp

/-- A register-only instruction from what it leaves as it was. -/
theorem registerOnly_of {s t : State} (h1 : SpecialsKept s t) (h2 : DebugKept s t) (h3 : t.opState = s.opState)
    (h4 : t.mem = s.mem) (h5 : t.stale = s.stale) : RegisterOnly s t := ⟨h1, h2, h3, .of_mem h4 _, h5⟩

/-! ### Results -/

theorem resultByte_effect (s : State) (d : Reg) (v : Byte) (n len : Nat) (e : v.toNat = n) :
    ResultEffect 8 s d n len (.next (s.resultByte d v (BitVec.ofNat 21 len))) := by
  subst e
  exact ⟨_, rfl, writesLow_setRegByte s d v, regsBut_setRegByte s d v, rfl, pcAfter_advance s rfl len,
    registerOnly_of ⟨rfl, rfl, rfl, rfl, rfl, rfl, rfl⟩ ⟨rfl, rfl, rfl⟩ rfl rfl rfl⟩

theorem resultWord_effect (s : State) (d : Reg) (v : Word) (n len : Nat) (e : v.toNat = n) :
    ResultEffect 16 s d n len (.next (s.resultWord d v (BitVec.ofNat 21 len))) := by
  subst e
  exact ⟨_, rfl, writesLow_setReg s d v, regsBut_setReg s d v, rfl, pcAfter_advance s rfl len,
    registerOnly_of ⟨rfl, rfl, rfl, rfl, rfl, rfl, rfl⟩ ⟨rfl, rfl, rfl⟩ rfl rfl rfl⟩

theorem reg_ne_succ (d : Reg) : d ≠ d + 1 := by revert d; decide

theorem resultPair_effect (s : State) (d : Reg) (hd : d ≠ 15) (p : BitVec 32) (n len : Nat) (e : p.toNat = n) :
    PairEffect s d n len (withPair d (s.resultPair d p (BitVec.ofNat 21 len))) := by
  subst e
  refine ⟨s.resultPair d p (BitVec.ofNat 21 len), if_neg hd, ?_, ?_, fun r hr => ?_, rfl,
    pcAfter_advance s rfl len, registerOnly_of ⟨rfl, rfl, rfl, rfl, rfl, rfl, rfl⟩ ⟨rfl, rfl, rfl⟩ rfl rfl rfl⟩ <;>
    unfold State.resultPair pairHigh <;> rw [State.advance_reg]
  · rw [State.reg_setReg_ne _ _ (reg_ne_succ d), State.reg_setReg_self, BitVec.extractLsb'_toNat]
    rfl
  · have := p.isLt
    rw [State.reg_setReg_self, BitVec.extractLsb'_toNat, Nat.shiftRight_eq_div_pow]
    omega
  · rw [List.mem_cons, List.mem_singleton, not_or] at hr
    rw [State.reg_setReg_ne _ _ hr.2, State.reg_setReg_ne _ _ hr.1]

/-- Without an interrupt during it, a multiply completes (41_arithmetic.md R149). -/
theorem State.multiply_completes {s : State} (h : ¬ s.interruptsMultiply) (t : State) : s.multiply t = t := by
  unfold State.multiply
  unfold State.interruptsMultiply at h
  cases hh : s.acceptedInterrupt s.pins.duringMul with
  | none => rfl
  | some x => rw [hh] at h; simp at h

/-! ### Sums, differences, comparisons -/

theorem outOfRange_iff (n : Nat) (t : Int) : outOfRange n t = true ↔ Overflows n t := by
  simp [outOfRange, Overflows]

/-- C and F after a sum or a difference; every other bit stays. -/
theorem State.setCarryOverflow_spec (s : State) {n : Nat} (r : Arith n) :
    (s.setCarryOverflow r).flag psrC = r.carry ∧ (s.setCarryOverflow r).flag psrF = r.overflow ∧
    FlagsBut s (s.setCarryOverflow r) [psrC, psrF] := by
  unfold State.setCarryOverflow
  refine ⟨?_, ?_, fun k hk => ?_⟩
  · rw [State.flag_setFlag _ _ _ (by decide), State.flag_setFlag _ _ _ (by decide)]; rfl
  · rw [State.flag_setFlag _ _ _ (by decide), if_pos rfl]
  · rw [List.mem_cons, List.mem_singleton, not_or] at hk
    rw [State.flag_setFlag _ _ _ (by decide), State.flag_setFlag _ _ _ (by decide), if_neg hk.2, if_neg hk.1]

theorem arithByte_effect (s : State) (d : Reg) (r : Arith 8) (n : Nat) (c o : Prop) (len : Nat)
    (e1 : r.value.toNat = n) (e2 : r.carry = true ↔ c) (e3 : r.overflow = true ↔ o) :
    ArithEffect 8 s d n c o len (.next (s.arithByte d r (BitVec.ofNat 21 len))) := by
  subst e1
  obtain ⟨h1, h2, h3⟩ := State.setCarryOverflow_spec (s.setRegByte d r.value) r
  exact ⟨_, rfl, writesLow_setRegByte s d _, regsBut_setRegByte s d _, by rw [← e2, ← h1]; rfl,
    by rw [← e3, ← h2]; rfl, h3, pcAfter_advance s rfl len,
    registerOnly_of ⟨rfl, rfl, rfl, rfl, rfl, rfl, rfl⟩ ⟨rfl, rfl, rfl⟩ rfl rfl rfl⟩

theorem arithWord_effect (s : State) (d : Reg) (r : Arith 16) (n : Nat) (c o : Prop) (len : Nat)
    (e1 : r.value.toNat = n) (e2 : r.carry = true ↔ c) (e3 : r.overflow = true ↔ o) :
    ArithEffect 16 s d n c o len (.next (s.arithWord d r (BitVec.ofNat 21 len))) := by
  subst e1
  obtain ⟨h1, h2, h3⟩ := State.setCarryOverflow_spec (s.setReg d r.value) r
  exact ⟨_, rfl, writesLow_setReg s d _, regsBut_setReg s d _, by rw [← e2, ← h1]; rfl,
    by rw [← e3, ← h2]; rfl, h3, pcAfter_advance s rfl len,
    registerOnly_of ⟨rfl, rfl, rfl, rfl, rfl, rfl, rfl⟩ ⟨rfl, rfl, rfl⟩ rfl rfl rfl⟩

/-- A sum with its carry and its overflow as numbers (41_arithmetic.md R140). -/
theorem addWith_spec {n : Nat} (hn : 0 < n) (a b : BitVec n) (c : Bool) :
    (addWith a b c).value.toNat = (a.toNat + b.toNat + c.toNat) % 2 ^ n ∧
    ((addWith a b c).carry = true ↔ 2 ^ n ≤ a.toNat + b.toNat + c.toNat) ∧
    ((addWith a b c).overflow = true ↔ Overflows n (signedOf n a.toNat + signedOf n b.toNat + c.toNat)) := by
  refine ⟨by simp [addWith], by simp [addWith], ?_⟩
  simp only [addWith, outOfRange_iff, toInt_eq_signedOf hn]

/-- A difference with its borrow and its overflow as numbers (41_arithmetic.md R140). -/
theorem subWith_spec {n : Nat} (hn : 0 < n) (a b : BitVec n) (c : Bool) :
    (subWith a b c).value.toNat = (((a.toNat : Int) - b.toNat - c.toNat) % 2 ^ n).toNat ∧
    ((subWith a b c).carry = true ↔ a.toNat < b.toNat + c.toNat) ∧
    ((subWith a b c).overflow = true ↔ Overflows n (signedOf n a.toNat - signedOf n b.toNat - c.toNat)) := by
  refine ⟨by simp [subWith, BitVec.toNat_ofInt], by simp [subWith], ?_⟩
  simp only [subWith, outOfRange_iff, toInt_eq_signedOf hn]

theorem compare_effect {w : Nat} (hw : 0 < w) (s : State) (d : Reg) (a b : BitVec w) (n len : Nat)
    (e : a.toNat = n) (eb : b.toNat = s.low w d) :
    CompareEffect w s d n len (.next (s.compare a b (BitVec.ofNat 21 len))) := by
  subst e
  refine ⟨_, rfl, ?_, ?_, ?_, fun k hk => ?_, fun _ _ => rfl, pcAfter_advance s rfl len,
    registerOnly_of ⟨rfl, rfl, rfl, rfl, rfl, rfl, rfl⟩ ⟨rfl, rfl, rfl⟩ rfl rfl rfl⟩
  · rw [← eb]; simp [State.compare, State.flag_setFlag, psrZ, psrN, psrL, BitVec.toNat_inj]
  · rw [← eb]; simp [State.compare, State.flag_setFlag, psrZ, psrN, psrL, BitVec.slt, toInt_eq_signedOf hw]
  · rw [← eb]; simp [State.compare, State.flag_setFlag, psrZ, psrN, psrL, BitVec.ult]
  · simp only [List.mem_cons, List.not_mem_nil, or_false, not_or] at hk
    unfold State.compare
    rw [State.advance_flag, State.flag_setFlag _ _ _ (by decide), State.flag_setFlag _ _ _ (by decide),
      State.flag_setFlag _ _ _ (by decide), if_neg hk.2.2, if_neg hk.2.1, if_neg hk.1]

/-- A condition holds as the flags say (30_encoding.md R109). -/
theorem holds_iff (s : State) (c : Cond) : s.holds c = true ↔ CondTrue s c := by
  cases c <;> simp [State.holds, condHolds, CondTrue, State.flag] <;> tauto

/-! ### Shift counts and shifted values -/

/-- The count is the low byte, signed (42_compare_logic_shift.md R170). -/
theorem shiftCount_eq (b : Word) : shiftCount b = signedOf 8 (b.toNat % 256) := by
  unfold shiftCount
  rw [toInt_eq_signedOf (by decide), toNat_low8]

theorem toNat_shiftedLeft {w : Nat} (x : BitVec w) (k : Nat) : (x <<< k).toNat = x.toNat * 2 ^ k % 2 ^ w := by
  rw [BitVec.toNat_shiftLeft, Nat.shiftLeft_eq]

theorem toNat_shiftedRightSigned {w : Nat} (hw : 0 < w) (x : BitVec w) (k : Nat) :
    (x.sshiftRight k).toNat = (signedOf w x.toNat / 2 ^ k % 2 ^ w).toNat := by
  have h := Int.shiftRight_eq_div_pow x.toInt k
  push_cast at h
  rw [← toInt_eq_signedOf hw, ← h, BitVec.sshiftRight, BitVec.toNat_ofInt]
  push_cast
  rfl

theorem toNat_shiftedRight {w : Nat} (x : BitVec w) (k : Nat) :
    (x >>> k).toNat = ((x.toNat : Int) / 2 ^ k % 2 ^ w).toNat := by
  have e : ((x.toNat : Int) / 2 ^ k % 2 ^ w) = ((x.toNat / 2 ^ k % 2 ^ w : Nat) : Int) := by push_cast; rfl
  rw [BitVec.toNat_ushiftRight, Nat.shiftRight_eq_div_pow, e, Int.toNat_natCast, Nat.mod_eq_of_lt]
  exact lt_of_le_of_lt (Nat.div_le_self _ _) x.isLt

/-! ### Control transfer -/

/-- A jump to an address, bit 0 cleared (00_scope.md R9). -/
theorem setPc_effect (s : State) (a : Addr) (tgt : Nat) (e : a.toNat / 2 = tgt / 2) :
    JumpEffect s [] tgt (.next (s.setPc a)) :=
  ⟨_, rfl, by rw [State.setPc_pc, toNat_evenAddr, e], fun _ _ => rfl, rfl,
    registerOnly_of ⟨rfl, rfl, rfl, rfl, rfl, rfl, rfl⟩ ⟨rfl, rfl, rfl⟩ rfl rfl rfl⟩

theorem branch_effect (s : State) (k : Bool) (p : Prop) (hk : k = true ↔ p) (a : Addr) (tgt len : Nat)
    (e : a.toNat / 2 = tgt / 2) : BranchEffect s p tgt len (.next (s.branch k a (BitVec.ofNat 21 len))) := by
  constructor <;> intro h
  · rw [hk.2 h]
    exact setPc_effect s a tgt e
  · have : k = false := by rw [← Bool.not_eq_true, hk]; exact h
    rw [this]
    refine setPc_effect s _ _ ?_
    rw [BitVec.toNat_add]
    simp

theorem toNat_signExtend21 {w : Nat} (d : BitVec w) : (d.signExtend 21).toNat = (d.toInt % 2 ^ 21).toNat := by
  rw [BitVec.signExtend, BitVec.toNat_ofInt]
  rfl

/-- pc + disp9 wraps at 2M (44_jumps_linkage.md R191). -/
theorem toNat_target9 (s : State) (d : BitVec 9) :
    (s.target9 d).toNat = ((s.pc.toNat + d.toInt) % 2 ^ 21).toNat := by
  unfold State.target9
  rw [BitVec.toNat_add, toNat_signExtend21]
  omega

/-- pc + disp17 wraps at 128K (44_jumps_linkage.md R192, R195). -/
theorem toNat_target17 (s : State) (d : BitVec 17) :
    (s.target17 d).toNat = ((s.pc.toNat + d.toInt) % 2 ^ 17).toNat := by
  have e : (0x1FFFF#21).toNat = 2 ^ 17 - 1 := rfl
  unfold State.target17
  rw [BitVec.toNat_and, BitVec.toNat_add, toNat_signExtend21, e, Nat.and_two_pow_sub_one_eq_mod]
  omega

/-- pc + disp21 wraps at 2M (44_jumps_linkage.md R193, R196). -/
theorem toNat_target21 (s : State) (d : BitVec 21) : (s.target21 d).toNat = (s.pc.toNat + d.toNat) % 2 ^ 21 :=
  BitVec.toNat_add _ _

/-- pc + disp5, unsigned (42_compare_logic_shift.md R161). -/
theorem toNat_target5 (s : State) (d : BitVec 5) : (s.target5 d).toNat = (s.pc.toNat + d.toNat) % 2 ^ 21 := by
  unfold State.target5
  rw [BitVec.toNat_add, BitVec.toNat_setWidth]
  have := d.isLt
  omega

/-- The code address in a register pair (44_jumps_linkage.md R199). -/
theorem toNat_codeLarge (hi lo : Word) : (codeLarge hi lo).toNat = hi.toNat % 16 * 2 ^ 17 + 2 * lo.toNat := by
  have h := toNat_handlerOf hi lo
  rw [show codeLarge hi lo = handlerOf hi lo from rfl, h]
  omega

/-- The code address in one register (44_jumps_linkage.md R198). -/
theorem toNat_codeSmall (lo : Word) : (codeSmall lo).toNat = 2 * lo.toNat := by
  have h := toNat_codeLarge 0 lo
  rw [show codeSmall lo = codeLarge 0 lo from rfl, h]
  simp

theorem toNat_linkLow (a : Addr) : (linkLow a).toNat = a.toNat / 2 % 2 ^ 16 := toNat_pcLow a

theorem toNat_linkHigh (a : Addr) : (linkHigh a).toNat = a.toNat / 2 ^ 17 := by
  have := a.isLt
  unfold linkHigh
  rw [BitVec.toNat_setWidth, BitVec.extractLsb'_toNat, Nat.shiftRight_eq_div_pow]
  omega

/-! ### Data addresses (45_procreg_loadstore_misc.md R224 to R229) -/

/-- DTruncate_18 wraps at 256K (00_scope.md R10). -/
theorem toNat_dTruncate18 (a : Addr) : (dTruncate18 a).toNat = a.toNat % 2 ^ 18 := by
  have e : (0x3FFFF#21).toNat = 2 ^ 18 - 1 := rfl
  unfold dTruncate18
  rw [BitVec.toNat_and, e, Nat.and_two_pow_sub_one_eq_mod]

/-! ### Loads and stores -/

theorem loadByteInto_effect (s : State) (d : Reg) (ea : Addr) (len : Nat) :
    LoadEffect 8 s d ea len (.next (s.loadByteInto d ea (BitVec.ofNat 21 len))) := by
  have hreg : ((s.loadByteInto d ea (BitVec.ofNat 21 len)).reg d).toNat =
      (s.reg d).toNat / 2 ^ 8 * 2 ^ 8 + (s.readByte ea).1.toNat := by
    have h := writesLow_setRegByte (s.readByte ea).2 d (s.readByte ea).1
    unfold WritesLow at h
    rw [State.readByte_reg] at h
    exact h
  refine ⟨_, rfl, fun _ hs => ?_, fun h => absurd h (by decide), ?_, fun x hx => ?_, ?_,
    pcAfter_advance s ?_ len, ⟨⟨?_, ?_, ?_, ?_, ?_, ?_, ?_⟩,
      (debugOfAccess_readByte s ea).of_eq rfl rfl rfl, ?_, .of_mem ?_ _, ?_⟩⟩
  · unfold WritesLow
    rw [hreg, State.readByte_stored hs]
  · rw [hreg]
    have := (s.readByte ea).1.isLt
    omega
  · have h := regsBut_setRegByte (s.readByte ea).2 d (s.readByte ea).1 x hx
    rw [State.readByte_reg] at h
    exact h
  all_goals simp [State.loadByteInto]

theorem loadWordInto_effect (s : State) (d : Reg) (ea : Addr) (len : Nat) :
    LoadEffect 16 s d ea len (.next (s.loadWordInto d ea (BitVec.ofNat 21 len))) := by
  have hreg : (s.loadWordInto d ea (BitVec.ofNat 21 len)).reg d = (s.readWord ea).1 := State.reg_setReg_self _ _ _
  have h1 := (s.reg d).isLt
  refine ⟨_, rfl, fun h => absurd h (by decide), fun _ hs => ?_, ?_, fun x hx => ?_, ?_,
    pcAfter_advance s ?_ len, ⟨⟨?_, ?_, ?_, ?_, ?_, ?_, ?_⟩,
      (debugOfAccess_readWord s ea).of_eq rfl rfl rfl, ?_, .of_mem ?_ _, ?_⟩⟩
  · unfold WritesLow
    rw [hreg, State.readWord_stored hs]
    omega
  · rw [hreg, Nat.div_eq_of_lt h1, Nat.div_eq_of_lt (s.readWord ea).1.isLt]
  · have h := regsBut_setReg (s.readWord ea).2 d (s.readWord ea).1 x hx
    rw [State.readWord_reg] at h
    exact h
  all_goals simp [State.loadWordInto]

theorem storeByteAt_effect (s : State) (ea : Addr) (v : Byte) (n len : Nat) (e : v.toNat = n) :
    StoreByteEffect s ea n len (.next (s.storeByteAt ea v (BitVec.ofNat 21 len))) := by
  subst e
  refine ⟨_, rfl, fun h => byteStored_writeByte h ea v, memoryBut_writeByte s ea v, fun x _ => ?_, ?_,
    pcAfter_advance s ?_ len, ⟨⟨?_, ?_, ?_, ?_, ?_, ?_, ?_⟩,
      (debugOfAccess_writeByte s ea v).of_eq rfl rfl rfl, ?_, (storesRecorded_writeByte s ea v).notRam⟩⟩
  all_goals simp [State.storeByteAt]

theorem storeWordAt_effect (s : State) (ea : Addr) (v : Word) (n len : Nat) (e : v.toNat = n) :
    StoreWordEffect s ea n len (.next (s.storeWordAt ea v (BitVec.ofNat 21 len))) := by
  subst e
  refine ⟨_, rfl, fun h => wordStored_writeWord h ea v, memoryBut_writeWord s ea v, fun x _ => ?_, ?_,
    pcAfter_advance s ?_ len, ⟨⟨?_, ?_, ?_, ?_, ?_, ?_, ?_⟩,
      (debugOfAccess_writeWord s ea v).of_eq rfl rfl rfl, ?_, (storesRecorded_writeWord s ea v).notRam⟩⟩
  all_goals simp [State.storeWordAt]

/-! ### Bits -/

/-- A bit written, as a number (43_bits.md R185, R186). -/
theorem toNat_withBit {n : Nat} (w : BitVec n) {k : Nat} (hk : k < n) (b : Bool) :
    (withBit w k b).toNat = changedBit w.toNat k b := by
  have hz : withBit w k false &&& BitVec.twoPow n k = 0#n := by simp [withBit, BitVec.and_assoc]
  have e : withBit w k false + BitVec.twoPow n k = withBit w k true := by
    rw [BitVec.add_eq_or_of_and_eq_zero _ _ hz]
    refine BitVec.eq_of_getLsbD_eq fun j hj => ?_
    rw [BitVec.getLsbD_or, getLsbD_withBit, getLsbD_withBit, BitVec.getLsbD_twoPow]
    by_cases hjk : k = j
    · subst hjk; simp [hk]
    · simp [hjk, Ne.symm hjk]
  have e2 := congrArg BitVec.toNat e
  rw [BitVec.toNat_add_of_and_eq_zero hz, BitVec.toNat_twoPow,
    Nat.mod_eq_of_lt (Nat.pow_lt_pow_right (by omega) hk)] at e2
  have hs := withBit_getLsbD w hk
  have ht : w.toNat.testBit k = w.getLsbD k := rfl
  unfold changedBit
  rw [ht]
  cases hb : w.getLsbD k <;> rw [hb] at hs <;> cases b
  · rw [hs]; simp
  · rw [← e2, hs]; simp
  · rw [hs] at e2; simp; omega
  · rw [hs] at e2 ⊢; simp; omega

end Sys2Proof.Machine
end

