-- ==== Sys2Proof/Laws/PerInstr.lean ====
section
/-! SUPPORT. Statements proved instruction by instruction: the encoder writes as many words as the row of the
opcode table has (30_encoding.md R92). -/

/-- The encoding has the instruction's length, in words of two bytes (30_encoding.md R92). -/
def Sys2Proof.Laws.EncodeLength.Statement (i : Sys2Proof.Instr) : Prop :=
  2 * (Sys2Proof.encode i).length = i.length

open Sys2Proof

theorem Sys2Proof.Laws.EncodeLength.addbReg (src dest : Reg) :
    Sys2Proof.Laws.EncodeLength.Statement (.addbReg src dest) := rfl
theorem Sys2Proof.Laws.EncodeLength.addbImm5 (imm : BitVec 5) (dest : Reg) :
    Sys2Proof.Laws.EncodeLength.Statement (.addbImm5 imm dest) := rfl
theorem Sys2Proof.Laws.EncodeLength.addbImm16 (imm : BitVec 16) (dest : Reg) :
    Sys2Proof.Laws.EncodeLength.Statement (.addbImm16 imm dest) := rfl
theorem Sys2Proof.Laws.EncodeLength.addwReg (src dest : Reg) :
    Sys2Proof.Laws.EncodeLength.Statement (.addwReg src dest) := rfl
theorem Sys2Proof.Laws.EncodeLength.addwImm5 (imm : BitVec 5) (dest : Reg) :
    Sys2Proof.Laws.EncodeLength.Statement (.addwImm5 imm dest) := rfl
theorem Sys2Proof.Laws.EncodeLength.addwImm16 (imm : BitVec 16) (dest : Reg) :
    Sys2Proof.Laws.EncodeLength.Statement (.addwImm16 imm dest) := rfl
theorem Sys2Proof.Laws.EncodeLength.addubReg (src dest : Reg) :
    Sys2Proof.Laws.EncodeLength.Statement (.addubReg src dest) := rfl
theorem Sys2Proof.Laws.EncodeLength.addubImm5 (imm : BitVec 5) (dest : Reg) :
    Sys2Proof.Laws.EncodeLength.Statement (.addubImm5 imm dest) := rfl
theorem Sys2Proof.Laws.EncodeLength.addubImm16 (imm : BitVec 16) (dest : Reg) :
    Sys2Proof.Laws.EncodeLength.Statement (.addubImm16 imm dest) := rfl
theorem Sys2Proof.Laws.EncodeLength.adduwReg (src dest : Reg) :
    Sys2Proof.Laws.EncodeLength.Statement (.adduwReg src dest) := rfl
theorem Sys2Proof.Laws.EncodeLength.adduwImm5 (imm : BitVec 5) (dest : Reg) :
    Sys2Proof.Laws.EncodeLength.Statement (.adduwImm5 imm dest) := rfl
theorem Sys2Proof.Laws.EncodeLength.adduwImm16 (imm : BitVec 16) (dest : Reg) :
    Sys2Proof.Laws.EncodeLength.Statement (.adduwImm16 imm dest) := rfl
theorem Sys2Proof.Laws.EncodeLength.mulbReg (src dest : Reg) :
    Sys2Proof.Laws.EncodeLength.Statement (.mulbReg src dest) := rfl
theorem Sys2Proof.Laws.EncodeLength.mulbImm5 (imm : BitVec 5) (dest : Reg) :
    Sys2Proof.Laws.EncodeLength.Statement (.mulbImm5 imm dest) := rfl
theorem Sys2Proof.Laws.EncodeLength.mulbImm16 (imm : BitVec 16) (dest : Reg) :
    Sys2Proof.Laws.EncodeLength.Statement (.mulbImm16 imm dest) := rfl
theorem Sys2Proof.Laws.EncodeLength.mulwReg (src dest : Reg) :
    Sys2Proof.Laws.EncodeLength.Statement (.mulwReg src dest) := rfl
theorem Sys2Proof.Laws.EncodeLength.mulwImm5 (imm : BitVec 5) (dest : Reg) :
    Sys2Proof.Laws.EncodeLength.Statement (.mulwImm5 imm dest) := rfl
theorem Sys2Proof.Laws.EncodeLength.mulwImm16 (imm : BitVec 16) (dest : Reg) :
    Sys2Proof.Laws.EncodeLength.Statement (.mulwImm16 imm dest) := rfl
theorem Sys2Proof.Laws.EncodeLength.ashubReg (count dest : Reg) :
    Sys2Proof.Laws.EncodeLength.Statement (.ashubReg count dest) := rfl
theorem Sys2Proof.Laws.EncodeLength.ashubImm5 (count : BitVec 5) (dest : Reg) :
    Sys2Proof.Laws.EncodeLength.Statement (.ashubImm5 count dest) := rfl
theorem Sys2Proof.Laws.EncodeLength.ashubImm16 (count : BitVec 16) (dest : Reg) :
    Sys2Proof.Laws.EncodeLength.Statement (.ashubImm16 count dest) := rfl
theorem Sys2Proof.Laws.EncodeLength.ashuwReg (count dest : Reg) :
    Sys2Proof.Laws.EncodeLength.Statement (.ashuwReg count dest) := rfl
theorem Sys2Proof.Laws.EncodeLength.ashuwImm5 (count : BitVec 5) (dest : Reg) :
    Sys2Proof.Laws.EncodeLength.Statement (.ashuwImm5 count dest) := rfl
theorem Sys2Proof.Laws.EncodeLength.ashuwImm16 (count : BitVec 16) (dest : Reg) :
    Sys2Proof.Laws.EncodeLength.Statement (.ashuwImm16 count dest) := rfl
theorem Sys2Proof.Laws.EncodeLength.lshbReg (count dest : Reg) :
    Sys2Proof.Laws.EncodeLength.Statement (.lshbReg count dest) := rfl
theorem Sys2Proof.Laws.EncodeLength.lshbImm5 (count : BitVec 5) (dest : Reg) :
    Sys2Proof.Laws.EncodeLength.Statement (.lshbImm5 count dest) := rfl
theorem Sys2Proof.Laws.EncodeLength.lshbImm16 (count : BitVec 16) (dest : Reg) :
    Sys2Proof.Laws.EncodeLength.Statement (.lshbImm16 count dest) := rfl
theorem Sys2Proof.Laws.EncodeLength.lshwReg (count dest : Reg) :
    Sys2Proof.Laws.EncodeLength.Statement (.lshwReg count dest) := rfl
theorem Sys2Proof.Laws.EncodeLength.lshwImm5 (count : BitVec 5) (dest : Reg) :
    Sys2Proof.Laws.EncodeLength.Statement (.lshwImm5 count dest) := rfl
theorem Sys2Proof.Laws.EncodeLength.lshwImm16 (count : BitVec 16) (dest : Reg) :
    Sys2Proof.Laws.EncodeLength.Statement (.lshwImm16 count dest) := rfl
theorem Sys2Proof.Laws.EncodeLength.xorbReg (src dest : Reg) :
    Sys2Proof.Laws.EncodeLength.Statement (.xorbReg src dest) := rfl
theorem Sys2Proof.Laws.EncodeLength.xorbImm5 (imm : BitVec 5) (dest : Reg) :
    Sys2Proof.Laws.EncodeLength.Statement (.xorbImm5 imm dest) := rfl
theorem Sys2Proof.Laws.EncodeLength.xorbImm16 (imm : BitVec 16) (dest : Reg) :
    Sys2Proof.Laws.EncodeLength.Statement (.xorbImm16 imm dest) := rfl
theorem Sys2Proof.Laws.EncodeLength.xorwReg (src dest : Reg) :
    Sys2Proof.Laws.EncodeLength.Statement (.xorwReg src dest) := rfl
theorem Sys2Proof.Laws.EncodeLength.xorwImm5 (imm : BitVec 5) (dest : Reg) :
    Sys2Proof.Laws.EncodeLength.Statement (.xorwImm5 imm dest) := rfl
theorem Sys2Proof.Laws.EncodeLength.xorwImm16 (imm : BitVec 16) (dest : Reg) :
    Sys2Proof.Laws.EncodeLength.Statement (.xorwImm16 imm dest) := rfl
theorem Sys2Proof.Laws.EncodeLength.cmpbReg (src1 src2 : Reg) :
    Sys2Proof.Laws.EncodeLength.Statement (.cmpbReg src1 src2) := rfl
theorem Sys2Proof.Laws.EncodeLength.cmpbImm5 (imm : BitVec 5) (src2 : Reg) :
    Sys2Proof.Laws.EncodeLength.Statement (.cmpbImm5 imm src2) := rfl
theorem Sys2Proof.Laws.EncodeLength.cmpbImm16 (imm : BitVec 16) (src2 : Reg) :
    Sys2Proof.Laws.EncodeLength.Statement (.cmpbImm16 imm src2) := rfl
theorem Sys2Proof.Laws.EncodeLength.cmpwReg (src1 src2 : Reg) :
    Sys2Proof.Laws.EncodeLength.Statement (.cmpwReg src1 src2) := rfl
theorem Sys2Proof.Laws.EncodeLength.cmpwImm5 (imm : BitVec 5) (src2 : Reg) :
    Sys2Proof.Laws.EncodeLength.Statement (.cmpwImm5 imm src2) := rfl
theorem Sys2Proof.Laws.EncodeLength.cmpwImm16 (imm : BitVec 16) (src2 : Reg) :
    Sys2Proof.Laws.EncodeLength.Statement (.cmpwImm16 imm src2) := rfl
theorem Sys2Proof.Laws.EncodeLength.andbReg (src dest : Reg) :
    Sys2Proof.Laws.EncodeLength.Statement (.andbReg src dest) := rfl
theorem Sys2Proof.Laws.EncodeLength.andbImm5 (imm : BitVec 5) (dest : Reg) :
    Sys2Proof.Laws.EncodeLength.Statement (.andbImm5 imm dest) := rfl
theorem Sys2Proof.Laws.EncodeLength.andbImm16 (imm : BitVec 16) (dest : Reg) :
    Sys2Proof.Laws.EncodeLength.Statement (.andbImm16 imm dest) := rfl
theorem Sys2Proof.Laws.EncodeLength.andwReg (src dest : Reg) :
    Sys2Proof.Laws.EncodeLength.Statement (.andwReg src dest) := rfl
theorem Sys2Proof.Laws.EncodeLength.andwImm5 (imm : BitVec 5) (dest : Reg) :
    Sys2Proof.Laws.EncodeLength.Statement (.andwImm5 imm dest) := rfl
theorem Sys2Proof.Laws.EncodeLength.andwImm16 (imm : BitVec 16) (dest : Reg) :
    Sys2Proof.Laws.EncodeLength.Statement (.andwImm16 imm dest) := rfl
theorem Sys2Proof.Laws.EncodeLength.addcbReg (src dest : Reg) :
    Sys2Proof.Laws.EncodeLength.Statement (.addcbReg src dest) := rfl
theorem Sys2Proof.Laws.EncodeLength.addcbImm5 (imm : BitVec 5) (dest : Reg) :
    Sys2Proof.Laws.EncodeLength.Statement (.addcbImm5 imm dest) := rfl
theorem Sys2Proof.Laws.EncodeLength.addcbImm16 (imm : BitVec 16) (dest : Reg) :
    Sys2Proof.Laws.EncodeLength.Statement (.addcbImm16 imm dest) := rfl
theorem Sys2Proof.Laws.EncodeLength.addcwReg (src dest : Reg) :
    Sys2Proof.Laws.EncodeLength.Statement (.addcwReg src dest) := rfl
theorem Sys2Proof.Laws.EncodeLength.addcwImm5 (imm : BitVec 5) (dest : Reg) :
    Sys2Proof.Laws.EncodeLength.Statement (.addcwImm5 imm dest) := rfl
theorem Sys2Proof.Laws.EncodeLength.addcwImm16 (imm : BitVec 16) (dest : Reg) :
    Sys2Proof.Laws.EncodeLength.Statement (.addcwImm16 imm dest) := rfl
theorem Sys2Proof.Laws.EncodeLength.movbReg (src dest : Reg) :
    Sys2Proof.Laws.EncodeLength.Statement (.movbReg src dest) := rfl
theorem Sys2Proof.Laws.EncodeLength.movbImm5 (imm : BitVec 5) (dest : Reg) :
    Sys2Proof.Laws.EncodeLength.Statement (.movbImm5 imm dest) := rfl
theorem Sys2Proof.Laws.EncodeLength.movbImm16 (imm : BitVec 16) (dest : Reg) :
    Sys2Proof.Laws.EncodeLength.Statement (.movbImm16 imm dest) := rfl
theorem Sys2Proof.Laws.EncodeLength.movwReg (src dest : Reg) :
    Sys2Proof.Laws.EncodeLength.Statement (.movwReg src dest) := rfl
theorem Sys2Proof.Laws.EncodeLength.movwImm5 (imm : BitVec 5) (dest : Reg) :
    Sys2Proof.Laws.EncodeLength.Statement (.movwImm5 imm dest) := rfl
theorem Sys2Proof.Laws.EncodeLength.movwImm16 (imm : BitVec 16) (dest : Reg) :
    Sys2Proof.Laws.EncodeLength.Statement (.movwImm16 imm dest) := rfl
theorem Sys2Proof.Laws.EncodeLength.subcbReg (src dest : Reg) :
    Sys2Proof.Laws.EncodeLength.Statement (.subcbReg src dest) := rfl
theorem Sys2Proof.Laws.EncodeLength.subcbImm5 (imm : BitVec 5) (dest : Reg) :
    Sys2Proof.Laws.EncodeLength.Statement (.subcbImm5 imm dest) := rfl
theorem Sys2Proof.Laws.EncodeLength.subcbImm16 (imm : BitVec 16) (dest : Reg) :
    Sys2Proof.Laws.EncodeLength.Statement (.subcbImm16 imm dest) := rfl
theorem Sys2Proof.Laws.EncodeLength.subcwReg (src dest : Reg) :
    Sys2Proof.Laws.EncodeLength.Statement (.subcwReg src dest) := rfl
theorem Sys2Proof.Laws.EncodeLength.subcwImm5 (imm : BitVec 5) (dest : Reg) :
    Sys2Proof.Laws.EncodeLength.Statement (.subcwImm5 imm dest) := rfl
theorem Sys2Proof.Laws.EncodeLength.subcwImm16 (imm : BitVec 16) (dest : Reg) :
    Sys2Proof.Laws.EncodeLength.Statement (.subcwImm16 imm dest) := rfl
theorem Sys2Proof.Laws.EncodeLength.orbReg (src dest : Reg) :
    Sys2Proof.Laws.EncodeLength.Statement (.orbReg src dest) := rfl
theorem Sys2Proof.Laws.EncodeLength.orbImm5 (imm : BitVec 5) (dest : Reg) :
    Sys2Proof.Laws.EncodeLength.Statement (.orbImm5 imm dest) := rfl
theorem Sys2Proof.Laws.EncodeLength.orbImm16 (imm : BitVec 16) (dest : Reg) :
    Sys2Proof.Laws.EncodeLength.Statement (.orbImm16 imm dest) := rfl
theorem Sys2Proof.Laws.EncodeLength.orwReg (src dest : Reg) :
    Sys2Proof.Laws.EncodeLength.Statement (.orwReg src dest) := rfl
theorem Sys2Proof.Laws.EncodeLength.orwImm5 (imm : BitVec 5) (dest : Reg) :
    Sys2Proof.Laws.EncodeLength.Statement (.orwImm5 imm dest) := rfl
theorem Sys2Proof.Laws.EncodeLength.orwImm16 (imm : BitVec 16) (dest : Reg) :
    Sys2Proof.Laws.EncodeLength.Statement (.orwImm16 imm dest) := rfl
theorem Sys2Proof.Laws.EncodeLength.subbReg (src dest : Reg) :
    Sys2Proof.Laws.EncodeLength.Statement (.subbReg src dest) := rfl
theorem Sys2Proof.Laws.EncodeLength.subbImm5 (imm : BitVec 5) (dest : Reg) :
    Sys2Proof.Laws.EncodeLength.Statement (.subbImm5 imm dest) := rfl
theorem Sys2Proof.Laws.EncodeLength.subbImm16 (imm : BitVec 16) (dest : Reg) :
    Sys2Proof.Laws.EncodeLength.Statement (.subbImm16 imm dest) := rfl
theorem Sys2Proof.Laws.EncodeLength.subwReg (src dest : Reg) :
    Sys2Proof.Laws.EncodeLength.Statement (.subwReg src dest) := rfl
theorem Sys2Proof.Laws.EncodeLength.subwImm5 (imm : BitVec 5) (dest : Reg) :
    Sys2Proof.Laws.EncodeLength.Statement (.subwImm5 imm dest) := rfl
theorem Sys2Proof.Laws.EncodeLength.subwImm16 (imm : BitVec 16) (dest : Reg) :
    Sys2Proof.Laws.EncodeLength.Statement (.subwImm16 imm dest) := rfl
theorem Sys2Proof.Laws.EncodeLength.tbitReg (offset src : Reg) :
    Sys2Proof.Laws.EncodeLength.Statement (.tbitReg offset src) := rfl
theorem Sys2Proof.Laws.EncodeLength.tbitImm5 (pos : BitVec 5) (src : Reg) :
    Sys2Proof.Laws.EncodeLength.Statement (.tbitImm5 pos src) := rfl
theorem Sys2Proof.Laws.EncodeLength.tbitImm16 (pos : BitVec 16) (src : Reg) :
    Sys2Proof.Laws.EncodeLength.Statement (.tbitImm16 pos src) := rfl
theorem Sys2Proof.Laws.EncodeLength.nop :
    Sys2Proof.Laws.EncodeLength.Statement (.nop) := rfl
theorem Sys2Proof.Laws.EncodeLength.beq0b (src : Restricted) (disp : BitVec 5) :
    Sys2Proof.Laws.EncodeLength.Statement (.beq0b src disp) := rfl
theorem Sys2Proof.Laws.EncodeLength.beq0w (src : Restricted) (disp : BitVec 5) :
    Sys2Proof.Laws.EncodeLength.Statement (.beq0w src disp) := rfl
theorem Sys2Proof.Laws.EncodeLength.beq1b (src : Restricted) (disp : BitVec 5) :
    Sys2Proof.Laws.EncodeLength.Statement (.beq1b src disp) := rfl
theorem Sys2Proof.Laws.EncodeLength.beq1w (src : Restricted) (disp : BitVec 5) :
    Sys2Proof.Laws.EncodeLength.Statement (.beq1w src disp) := rfl
theorem Sys2Proof.Laws.EncodeLength.bne0b (src : Restricted) (disp : BitVec 5) :
    Sys2Proof.Laws.EncodeLength.Statement (.bne0b src disp) := rfl
theorem Sys2Proof.Laws.EncodeLength.bne0w (src : Restricted) (disp : BitVec 5) :
    Sys2Proof.Laws.EncodeLength.Statement (.bne0w src disp) := rfl
theorem Sys2Proof.Laws.EncodeLength.bne1b (src : Restricted) (disp : BitVec 5) :
    Sys2Proof.Laws.EncodeLength.Statement (.bne1b src disp) := rfl
theorem Sys2Proof.Laws.EncodeLength.bne1w (src : Restricted) (disp : BitVec 5) :
    Sys2Proof.Laws.EncodeLength.Statement (.bne1w src disp) := rfl
theorem Sys2Proof.Laws.EncodeLength.movd (imm : BitVec 21) (dest : Reg) :
    Sys2Proof.Laws.EncodeLength.Statement (.movd imm dest) := rfl
theorem Sys2Proof.Laws.EncodeLength.mulsb (src dest : Reg) :
    Sys2Proof.Laws.EncodeLength.Statement (.mulsb src dest) := rfl
theorem Sys2Proof.Laws.EncodeLength.mulsw (src dest : Reg) :
    Sys2Proof.Laws.EncodeLength.Statement (.mulsw src dest) := rfl
theorem Sys2Proof.Laws.EncodeLength.muluw (src : Restricted) (dest : Reg) :
    Sys2Proof.Laws.EncodeLength.Statement (.muluw src dest) := rfl
theorem Sys2Proof.Laws.EncodeLength.movxb (src dest : Reg) :
    Sys2Proof.Laws.EncodeLength.Statement (.movxb src dest) := rfl
theorem Sys2Proof.Laws.EncodeLength.movzb (src dest : Reg) :
    Sys2Proof.Laws.EncodeLength.Statement (.movzb src dest) := rfl
theorem Sys2Proof.Laws.EncodeLength.push (rcnt : BitVec 2) (src : Reg) :
    Sys2Proof.Laws.EncodeLength.Statement (.push rcnt src) := rfl
theorem Sys2Proof.Laws.EncodeLength.pop (rcnt : BitVec 2) (dest : Reg) :
    Sys2Proof.Laws.EncodeLength.Statement (.pop rcnt dest) := rfl
theorem Sys2Proof.Laws.EncodeLength.popretSmall (rcnt : BitVec 2) (dest : Reg) :
    Sys2Proof.Laws.EncodeLength.Statement (.popretSmall rcnt dest) := rfl
theorem Sys2Proof.Laws.EncodeLength.popretLarge (rcnt : BitVec 2) (dest : Reg) :
    Sys2Proof.Laws.EncodeLength.Statement (.popretLarge rcnt dest) := rfl
theorem Sys2Proof.Laws.EncodeLength.seq (dest : Reg) :
    Sys2Proof.Laws.EncodeLength.Statement (.seq dest) := rfl
theorem Sys2Proof.Laws.EncodeLength.sne (dest : Reg) :
    Sys2Proof.Laws.EncodeLength.Statement (.sne dest) := rfl
theorem Sys2Proof.Laws.EncodeLength.scs (dest : Reg) :
    Sys2Proof.Laws.EncodeLength.Statement (.scs dest) := rfl
theorem Sys2Proof.Laws.EncodeLength.scc (dest : Reg) :
    Sys2Proof.Laws.EncodeLength.Statement (.scc dest) := rfl
theorem Sys2Proof.Laws.EncodeLength.shi (dest : Reg) :
    Sys2Proof.Laws.EncodeLength.Statement (.shi dest) := rfl
theorem Sys2Proof.Laws.EncodeLength.sls (dest : Reg) :
    Sys2Proof.Laws.EncodeLength.Statement (.sls dest) := rfl
theorem Sys2Proof.Laws.EncodeLength.sgt (dest : Reg) :
    Sys2Proof.Laws.EncodeLength.Statement (.sgt dest) := rfl
theorem Sys2Proof.Laws.EncodeLength.sle (dest : Reg) :
    Sys2Proof.Laws.EncodeLength.Statement (.sle dest) := rfl
theorem Sys2Proof.Laws.EncodeLength.sfs (dest : Reg) :
    Sys2Proof.Laws.EncodeLength.Statement (.sfs dest) := rfl
theorem Sys2Proof.Laws.EncodeLength.sfc (dest : Reg) :
    Sys2Proof.Laws.EncodeLength.Statement (.sfc dest) := rfl
theorem Sys2Proof.Laws.EncodeLength.slo (dest : Reg) :
    Sys2Proof.Laws.EncodeLength.Statement (.slo dest) := rfl
theorem Sys2Proof.Laws.EncodeLength.shs (dest : Reg) :
    Sys2Proof.Laws.EncodeLength.Statement (.shs dest) := rfl
theorem Sys2Proof.Laws.EncodeLength.slt (dest : Reg) :
    Sys2Proof.Laws.EncodeLength.Statement (.slt dest) := rfl
theorem Sys2Proof.Laws.EncodeLength.sge (dest : Reg) :
    Sys2Proof.Laws.EncodeLength.Statement (.sge dest) := rfl
theorem Sys2Proof.Laws.EncodeLength.lpr (src : Reg) (rproc : BitVec 4) :
    Sys2Proof.Laws.EncodeLength.Statement (.lpr src rproc) := rfl
theorem Sys2Proof.Laws.EncodeLength.spr (rproc : BitVec 4) (dest : Reg) :
    Sys2Proof.Laws.EncodeLength.Statement (.spr rproc dest) := rfl
theorem Sys2Proof.Laws.EncodeLength.beqDisp9 (disp : BitVec 9) :
    Sys2Proof.Laws.EncodeLength.Statement (.beqDisp9 disp) := rfl
theorem Sys2Proof.Laws.EncodeLength.beqDisp17 (disp : BitVec 17) :
    Sys2Proof.Laws.EncodeLength.Statement (.beqDisp17 disp) := rfl
theorem Sys2Proof.Laws.EncodeLength.beqDisp21 (disp : BitVec 21) :
    Sys2Proof.Laws.EncodeLength.Statement (.beqDisp21 disp) := rfl
theorem Sys2Proof.Laws.EncodeLength.bneDisp9 (disp : BitVec 9) :
    Sys2Proof.Laws.EncodeLength.Statement (.bneDisp9 disp) := rfl
theorem Sys2Proof.Laws.EncodeLength.bneDisp17 (disp : BitVec 17) :
    Sys2Proof.Laws.EncodeLength.Statement (.bneDisp17 disp) := rfl
theorem Sys2Proof.Laws.EncodeLength.bneDisp21 (disp : BitVec 21) :
    Sys2Proof.Laws.EncodeLength.Statement (.bneDisp21 disp) := rfl
theorem Sys2Proof.Laws.EncodeLength.bcsDisp9 (disp : BitVec 9) :
    Sys2Proof.Laws.EncodeLength.Statement (.bcsDisp9 disp) := rfl
theorem Sys2Proof.Laws.EncodeLength.bcsDisp17 (disp : BitVec 17) :
    Sys2Proof.Laws.EncodeLength.Statement (.bcsDisp17 disp) := rfl
theorem Sys2Proof.Laws.EncodeLength.bcsDisp21 (disp : BitVec 21) :
    Sys2Proof.Laws.EncodeLength.Statement (.bcsDisp21 disp) := rfl
theorem Sys2Proof.Laws.EncodeLength.bccDisp9 (disp : BitVec 9) :
    Sys2Proof.Laws.EncodeLength.Statement (.bccDisp9 disp) := rfl
theorem Sys2Proof.Laws.EncodeLength.bccDisp17 (disp : BitVec 17) :
    Sys2Proof.Laws.EncodeLength.Statement (.bccDisp17 disp) := rfl
theorem Sys2Proof.Laws.EncodeLength.bccDisp21 (disp : BitVec 21) :
    Sys2Proof.Laws.EncodeLength.Statement (.bccDisp21 disp) := rfl
theorem Sys2Proof.Laws.EncodeLength.bhiDisp9 (disp : BitVec 9) :
    Sys2Proof.Laws.EncodeLength.Statement (.bhiDisp9 disp) := rfl
theorem Sys2Proof.Laws.EncodeLength.bhiDisp17 (disp : BitVec 17) :
    Sys2Proof.Laws.EncodeLength.Statement (.bhiDisp17 disp) := rfl
theorem Sys2Proof.Laws.EncodeLength.bhiDisp21 (disp : BitVec 21) :
    Sys2Proof.Laws.EncodeLength.Statement (.bhiDisp21 disp) := rfl
theorem Sys2Proof.Laws.EncodeLength.blsDisp9 (disp : BitVec 9) :
    Sys2Proof.Laws.EncodeLength.Statement (.blsDisp9 disp) := rfl
theorem Sys2Proof.Laws.EncodeLength.blsDisp17 (disp : BitVec 17) :
    Sys2Proof.Laws.EncodeLength.Statement (.blsDisp17 disp) := rfl
theorem Sys2Proof.Laws.EncodeLength.blsDisp21 (disp : BitVec 21) :
    Sys2Proof.Laws.EncodeLength.Statement (.blsDisp21 disp) := rfl
theorem Sys2Proof.Laws.EncodeLength.bgtDisp9 (disp : BitVec 9) :
    Sys2Proof.Laws.EncodeLength.Statement (.bgtDisp9 disp) := rfl
theorem Sys2Proof.Laws.EncodeLength.bgtDisp17 (disp : BitVec 17) :
    Sys2Proof.Laws.EncodeLength.Statement (.bgtDisp17 disp) := rfl
theorem Sys2Proof.Laws.EncodeLength.bgtDisp21 (disp : BitVec 21) :
    Sys2Proof.Laws.EncodeLength.Statement (.bgtDisp21 disp) := rfl
theorem Sys2Proof.Laws.EncodeLength.bleDisp9 (disp : BitVec 9) :
    Sys2Proof.Laws.EncodeLength.Statement (.bleDisp9 disp) := rfl
theorem Sys2Proof.Laws.EncodeLength.bleDisp17 (disp : BitVec 17) :
    Sys2Proof.Laws.EncodeLength.Statement (.bleDisp17 disp) := rfl
theorem Sys2Proof.Laws.EncodeLength.bleDisp21 (disp : BitVec 21) :
    Sys2Proof.Laws.EncodeLength.Statement (.bleDisp21 disp) := rfl
theorem Sys2Proof.Laws.EncodeLength.bfsDisp9 (disp : BitVec 9) :
    Sys2Proof.Laws.EncodeLength.Statement (.bfsDisp9 disp) := rfl
theorem Sys2Proof.Laws.EncodeLength.bfsDisp17 (disp : BitVec 17) :
    Sys2Proof.Laws.EncodeLength.Statement (.bfsDisp17 disp) := rfl
theorem Sys2Proof.Laws.EncodeLength.bfsDisp21 (disp : BitVec 21) :
    Sys2Proof.Laws.EncodeLength.Statement (.bfsDisp21 disp) := rfl
theorem Sys2Proof.Laws.EncodeLength.bfcDisp9 (disp : BitVec 9) :
    Sys2Proof.Laws.EncodeLength.Statement (.bfcDisp9 disp) := rfl
theorem Sys2Proof.Laws.EncodeLength.bfcDisp17 (disp : BitVec 17) :
    Sys2Proof.Laws.EncodeLength.Statement (.bfcDisp17 disp) := rfl
theorem Sys2Proof.Laws.EncodeLength.bfcDisp21 (disp : BitVec 21) :
    Sys2Proof.Laws.EncodeLength.Statement (.bfcDisp21 disp) := rfl
theorem Sys2Proof.Laws.EncodeLength.bloDisp9 (disp : BitVec 9) :
    Sys2Proof.Laws.EncodeLength.Statement (.bloDisp9 disp) := rfl
theorem Sys2Proof.Laws.EncodeLength.bloDisp17 (disp : BitVec 17) :
    Sys2Proof.Laws.EncodeLength.Statement (.bloDisp17 disp) := rfl
theorem Sys2Proof.Laws.EncodeLength.bloDisp21 (disp : BitVec 21) :
    Sys2Proof.Laws.EncodeLength.Statement (.bloDisp21 disp) := rfl
theorem Sys2Proof.Laws.EncodeLength.bhsDisp9 (disp : BitVec 9) :
    Sys2Proof.Laws.EncodeLength.Statement (.bhsDisp9 disp) := rfl
theorem Sys2Proof.Laws.EncodeLength.bhsDisp17 (disp : BitVec 17) :
    Sys2Proof.Laws.EncodeLength.Statement (.bhsDisp17 disp) := rfl
theorem Sys2Proof.Laws.EncodeLength.bhsDisp21 (disp : BitVec 21) :
    Sys2Proof.Laws.EncodeLength.Statement (.bhsDisp21 disp) := rfl
theorem Sys2Proof.Laws.EncodeLength.bltDisp9 (disp : BitVec 9) :
    Sys2Proof.Laws.EncodeLength.Statement (.bltDisp9 disp) := rfl
theorem Sys2Proof.Laws.EncodeLength.bltDisp17 (disp : BitVec 17) :
    Sys2Proof.Laws.EncodeLength.Statement (.bltDisp17 disp) := rfl
theorem Sys2Proof.Laws.EncodeLength.bltDisp21 (disp : BitVec 21) :
    Sys2Proof.Laws.EncodeLength.Statement (.bltDisp21 disp) := rfl
theorem Sys2Proof.Laws.EncodeLength.bgeDisp9 (disp : BitVec 9) :
    Sys2Proof.Laws.EncodeLength.Statement (.bgeDisp9 disp) := rfl
theorem Sys2Proof.Laws.EncodeLength.bgeDisp17 (disp : BitVec 17) :
    Sys2Proof.Laws.EncodeLength.Statement (.bgeDisp17 disp) := rfl
theorem Sys2Proof.Laws.EncodeLength.bgeDisp21 (disp : BitVec 21) :
    Sys2Proof.Laws.EncodeLength.Statement (.bgeDisp21 disp) := rfl
theorem Sys2Proof.Laws.EncodeLength.brDisp9 (disp : BitVec 9) :
    Sys2Proof.Laws.EncodeLength.Statement (.brDisp9 disp) := rfl
theorem Sys2Proof.Laws.EncodeLength.brDisp17 (disp : BitVec 17) :
    Sys2Proof.Laws.EncodeLength.Statement (.brDisp17 disp) := rfl
theorem Sys2Proof.Laws.EncodeLength.brDisp21 (disp : BitVec 21) :
    Sys2Proof.Laws.EncodeLength.Statement (.brDisp21 disp) := rfl
theorem Sys2Proof.Laws.EncodeLength.balSmall (link : Reg) (disp : BitVec 17) :
    Sys2Proof.Laws.EncodeLength.Statement (.balSmall link disp) := rfl
theorem Sys2Proof.Laws.EncodeLength.balLarge (link : Reg) (disp : BitVec 21) :
    Sys2Proof.Laws.EncodeLength.Statement (.balLarge link disp) := rfl
theorem Sys2Proof.Laws.EncodeLength.jeqSmall (target : Reg) :
    Sys2Proof.Laws.EncodeLength.Statement (.jeqSmall target) := rfl
theorem Sys2Proof.Laws.EncodeLength.jeqLarge (target : Reg) :
    Sys2Proof.Laws.EncodeLength.Statement (.jeqLarge target) := rfl
theorem Sys2Proof.Laws.EncodeLength.jneSmall (target : Reg) :
    Sys2Proof.Laws.EncodeLength.Statement (.jneSmall target) := rfl
theorem Sys2Proof.Laws.EncodeLength.jneLarge (target : Reg) :
    Sys2Proof.Laws.EncodeLength.Statement (.jneLarge target) := rfl
theorem Sys2Proof.Laws.EncodeLength.jcsSmall (target : Reg) :
    Sys2Proof.Laws.EncodeLength.Statement (.jcsSmall target) := rfl
theorem Sys2Proof.Laws.EncodeLength.jcsLarge (target : Reg) :
    Sys2Proof.Laws.EncodeLength.Statement (.jcsLarge target) := rfl
theorem Sys2Proof.Laws.EncodeLength.jccSmall (target : Reg) :
    Sys2Proof.Laws.EncodeLength.Statement (.jccSmall target) := rfl
theorem Sys2Proof.Laws.EncodeLength.jccLarge (target : Reg) :
    Sys2Proof.Laws.EncodeLength.Statement (.jccLarge target) := rfl
theorem Sys2Proof.Laws.EncodeLength.jhiSmall (target : Reg) :
    Sys2Proof.Laws.EncodeLength.Statement (.jhiSmall target) := rfl
theorem Sys2Proof.Laws.EncodeLength.jhiLarge (target : Reg) :
    Sys2Proof.Laws.EncodeLength.Statement (.jhiLarge target) := rfl
theorem Sys2Proof.Laws.EncodeLength.jlsSmall (target : Reg) :
    Sys2Proof.Laws.EncodeLength.Statement (.jlsSmall target) := rfl
theorem Sys2Proof.Laws.EncodeLength.jlsLarge (target : Reg) :
    Sys2Proof.Laws.EncodeLength.Statement (.jlsLarge target) := rfl
theorem Sys2Proof.Laws.EncodeLength.jgtSmall (target : Reg) :
    Sys2Proof.Laws.EncodeLength.Statement (.jgtSmall target) := rfl
theorem Sys2Proof.Laws.EncodeLength.jgtLarge (target : Reg) :
    Sys2Proof.Laws.EncodeLength.Statement (.jgtLarge target) := rfl
theorem Sys2Proof.Laws.EncodeLength.jleSmall (target : Reg) :
    Sys2Proof.Laws.EncodeLength.Statement (.jleSmall target) := rfl
theorem Sys2Proof.Laws.EncodeLength.jleLarge (target : Reg) :
    Sys2Proof.Laws.EncodeLength.Statement (.jleLarge target) := rfl
theorem Sys2Proof.Laws.EncodeLength.jfsSmall (target : Reg) :
    Sys2Proof.Laws.EncodeLength.Statement (.jfsSmall target) := rfl
theorem Sys2Proof.Laws.EncodeLength.jfsLarge (target : Reg) :
    Sys2Proof.Laws.EncodeLength.Statement (.jfsLarge target) := rfl
theorem Sys2Proof.Laws.EncodeLength.jfcSmall (target : Reg) :
    Sys2Proof.Laws.EncodeLength.Statement (.jfcSmall target) := rfl
theorem Sys2Proof.Laws.EncodeLength.jfcLarge (target : Reg) :
    Sys2Proof.Laws.EncodeLength.Statement (.jfcLarge target) := rfl
theorem Sys2Proof.Laws.EncodeLength.jloSmall (target : Reg) :
    Sys2Proof.Laws.EncodeLength.Statement (.jloSmall target) := rfl
theorem Sys2Proof.Laws.EncodeLength.jloLarge (target : Reg) :
    Sys2Proof.Laws.EncodeLength.Statement (.jloLarge target) := rfl
theorem Sys2Proof.Laws.EncodeLength.jhsSmall (target : Reg) :
    Sys2Proof.Laws.EncodeLength.Statement (.jhsSmall target) := rfl
theorem Sys2Proof.Laws.EncodeLength.jhsLarge (target : Reg) :
    Sys2Proof.Laws.EncodeLength.Statement (.jhsLarge target) := rfl
theorem Sys2Proof.Laws.EncodeLength.jltSmall (target : Reg) :
    Sys2Proof.Laws.EncodeLength.Statement (.jltSmall target) := rfl
theorem Sys2Proof.Laws.EncodeLength.jltLarge (target : Reg) :
    Sys2Proof.Laws.EncodeLength.Statement (.jltLarge target) := rfl
theorem Sys2Proof.Laws.EncodeLength.jgeSmall (target : Reg) :
    Sys2Proof.Laws.EncodeLength.Statement (.jgeSmall target) := rfl
theorem Sys2Proof.Laws.EncodeLength.jgeLarge (target : Reg) :
    Sys2Proof.Laws.EncodeLength.Statement (.jgeLarge target) := rfl
theorem Sys2Proof.Laws.EncodeLength.jumpSmall (target : Reg) :
    Sys2Proof.Laws.EncodeLength.Statement (.jumpSmall target) := rfl
theorem Sys2Proof.Laws.EncodeLength.jumpLarge (target : Reg) :
    Sys2Proof.Laws.EncodeLength.Statement (.jumpLarge target) := rfl
theorem Sys2Proof.Laws.EncodeLength.jalSmall (link target : Reg) :
    Sys2Proof.Laws.EncodeLength.Statement (.jalSmall link target) := rfl
theorem Sys2Proof.Laws.EncodeLength.jalLarge (link target : Reg) :
    Sys2Proof.Laws.EncodeLength.Statement (.jalLarge link target) := rfl
theorem Sys2Proof.Laws.EncodeLength.retx :
    Sys2Proof.Laws.EncodeLength.Statement (.retx) := rfl
theorem Sys2Proof.Laws.EncodeLength.excp (vector : BitVec 4) :
    Sys2Proof.Laws.EncodeLength.Statement (.excp vector) := rfl
theorem Sys2Proof.Laws.EncodeLength.di :
    Sys2Proof.Laws.EncodeLength.Statement (.di) := rfl
theorem Sys2Proof.Laws.EncodeLength.ei :
    Sys2Proof.Laws.EncodeLength.Statement (.ei) := rfl
theorem Sys2Proof.Laws.EncodeLength.loadm (rcnt : BitVec 2) :
    Sys2Proof.Laws.EncodeLength.Statement (.loadm rcnt) := rfl
theorem Sys2Proof.Laws.EncodeLength.storm (rcnt : BitVec 2) :
    Sys2Proof.Laws.EncodeLength.Statement (.storm rcnt) := rfl
theorem Sys2Proof.Laws.EncodeLength.eiwait :
    Sys2Proof.Laws.EncodeLength.Statement (.eiwait) := rfl
theorem Sys2Proof.Laws.EncodeLength.wait :
    Sys2Proof.Laws.EncodeLength.Statement (.wait) := rfl
theorem Sys2Proof.Laws.EncodeLength.loadbDisp5 (disp : BitVec 5) (base dest : Reg) :
    Sys2Proof.Laws.EncodeLength.Statement (.loadbDisp5 disp base dest) := rfl
theorem Sys2Proof.Laws.EncodeLength.loadbDisp18 (disp : BitVec 18) (base dest : Reg) :
    Sys2Proof.Laws.EncodeLength.Statement (.loadbDisp18 disp base dest) := rfl
theorem Sys2Proof.Laws.EncodeLength.loadbFar (disp : BitVec 18) (base dest : Reg) :
    Sys2Proof.Laws.EncodeLength.Statement (.loadbFar disp base dest) := rfl
theorem Sys2Proof.Laws.EncodeLength.loadbAbs (addr : BitVec 18) (dest : Reg) :
    Sys2Proof.Laws.EncodeLength.Statement (.loadbAbs addr dest) := rfl
theorem Sys2Proof.Laws.EncodeLength.loadwDisp5 (disp : BitVec 5) (base dest : Reg) :
    Sys2Proof.Laws.EncodeLength.Statement (.loadwDisp5 disp base dest) := rfl
theorem Sys2Proof.Laws.EncodeLength.loadwDisp18 (disp : BitVec 18) (base dest : Reg) :
    Sys2Proof.Laws.EncodeLength.Statement (.loadwDisp18 disp base dest) := rfl
theorem Sys2Proof.Laws.EncodeLength.loadwFar (disp : BitVec 18) (base dest : Reg) :
    Sys2Proof.Laws.EncodeLength.Statement (.loadwFar disp base dest) := rfl
theorem Sys2Proof.Laws.EncodeLength.loadwAbs (addr : BitVec 18) (dest : Reg) :
    Sys2Proof.Laws.EncodeLength.Statement (.loadwAbs addr dest) := rfl
theorem Sys2Proof.Laws.EncodeLength.storbDisp5 (src : Reg) (disp : BitVec 5) (base : Reg) :
    Sys2Proof.Laws.EncodeLength.Statement (.storbDisp5 src disp base) := rfl
theorem Sys2Proof.Laws.EncodeLength.storbDisp18 (src : Reg) (disp : BitVec 18) (base : Reg) :
    Sys2Proof.Laws.EncodeLength.Statement (.storbDisp18 src disp base) := rfl
theorem Sys2Proof.Laws.EncodeLength.storbFar (src : Reg) (disp : BitVec 18) (base : Reg) :
    Sys2Proof.Laws.EncodeLength.Statement (.storbFar src disp base) := rfl
theorem Sys2Proof.Laws.EncodeLength.storbAbs (src : Reg) (addr : BitVec 18) :
    Sys2Proof.Laws.EncodeLength.Statement (.storbAbs src addr) := rfl
theorem Sys2Proof.Laws.EncodeLength.storwDisp5 (src : Reg) (disp : BitVec 5) (base : Reg) :
    Sys2Proof.Laws.EncodeLength.Statement (.storwDisp5 src disp base) := rfl
theorem Sys2Proof.Laws.EncodeLength.storwDisp18 (src : Reg) (disp : BitVec 18) (base : Reg) :
    Sys2Proof.Laws.EncodeLength.Statement (.storwDisp18 src disp base) := rfl
theorem Sys2Proof.Laws.EncodeLength.storwFar (src : Reg) (disp : BitVec 18) (base : Reg) :
    Sys2Proof.Laws.EncodeLength.Statement (.storwFar src disp base) := rfl
theorem Sys2Proof.Laws.EncodeLength.storwAbs (src : Reg) (addr : BitVec 18) :
    Sys2Proof.Laws.EncodeLength.Statement (.storwAbs src addr) := rfl
theorem Sys2Proof.Laws.EncodeLength.cbitbBase (pos : BitVec 4) (base : Restricted) :
    Sys2Proof.Laws.EncodeLength.Statement (.cbitbBase pos base) := rfl
theorem Sys2Proof.Laws.EncodeLength.cbitbDisp16 (pos : BitVec 4) (disp : BitVec 16) (base : Restricted) :
    Sys2Proof.Laws.EncodeLength.Statement (.cbitbDisp16 pos disp base) := rfl
theorem Sys2Proof.Laws.EncodeLength.cbitbAbs (pos : BitVec 4) (addr : BitVec 18) :
    Sys2Proof.Laws.EncodeLength.Statement (.cbitbAbs pos addr) := rfl
theorem Sys2Proof.Laws.EncodeLength.cbitwBase (pos : BitVec 4) (base : Restricted) :
    Sys2Proof.Laws.EncodeLength.Statement (.cbitwBase pos base) := rfl
theorem Sys2Proof.Laws.EncodeLength.cbitwDisp16 (pos : BitVec 4) (disp : BitVec 16) (base : Restricted) :
    Sys2Proof.Laws.EncodeLength.Statement (.cbitwDisp16 pos disp base) := rfl
theorem Sys2Proof.Laws.EncodeLength.cbitwAbs (pos : BitVec 4) (addr : BitVec 18) :
    Sys2Proof.Laws.EncodeLength.Statement (.cbitwAbs pos addr) := rfl
theorem Sys2Proof.Laws.EncodeLength.sbitbBase (pos : BitVec 4) (base : Restricted) :
    Sys2Proof.Laws.EncodeLength.Statement (.sbitbBase pos base) := rfl
theorem Sys2Proof.Laws.EncodeLength.sbitbDisp16 (pos : BitVec 4) (disp : BitVec 16) (base : Restricted) :
    Sys2Proof.Laws.EncodeLength.Statement (.sbitbDisp16 pos disp base) := rfl
theorem Sys2Proof.Laws.EncodeLength.sbitbAbs (pos : BitVec 4) (addr : BitVec 18) :
    Sys2Proof.Laws.EncodeLength.Statement (.sbitbAbs pos addr) := rfl
theorem Sys2Proof.Laws.EncodeLength.sbitwBase (pos : BitVec 4) (base : Restricted) :
    Sys2Proof.Laws.EncodeLength.Statement (.sbitwBase pos base) := rfl
theorem Sys2Proof.Laws.EncodeLength.sbitwDisp16 (pos : BitVec 4) (disp : BitVec 16) (base : Restricted) :
    Sys2Proof.Laws.EncodeLength.Statement (.sbitwDisp16 pos disp base) := rfl
theorem Sys2Proof.Laws.EncodeLength.sbitwAbs (pos : BitVec 4) (addr : BitVec 18) :
    Sys2Proof.Laws.EncodeLength.Statement (.sbitwAbs pos addr) := rfl
theorem Sys2Proof.Laws.EncodeLength.tbitbBase (pos : BitVec 4) (base : Restricted) :
    Sys2Proof.Laws.EncodeLength.Statement (.tbitbBase pos base) := rfl
theorem Sys2Proof.Laws.EncodeLength.tbitbDisp16 (pos : BitVec 4) (disp : BitVec 16) (base : Restricted) :
    Sys2Proof.Laws.EncodeLength.Statement (.tbitbDisp16 pos disp base) := rfl
theorem Sys2Proof.Laws.EncodeLength.tbitbAbs (pos : BitVec 4) (addr : BitVec 18) :
    Sys2Proof.Laws.EncodeLength.Statement (.tbitbAbs pos addr) := rfl
theorem Sys2Proof.Laws.EncodeLength.tbitwBase (pos : BitVec 4) (base : Restricted) :
    Sys2Proof.Laws.EncodeLength.Statement (.tbitwBase pos base) := rfl
theorem Sys2Proof.Laws.EncodeLength.tbitwDisp16 (pos : BitVec 4) (disp : BitVec 16) (base : Restricted) :
    Sys2Proof.Laws.EncodeLength.Statement (.tbitwDisp16 pos disp base) := rfl
theorem Sys2Proof.Laws.EncodeLength.tbitwAbs (pos : BitVec 4) (addr : BitVec 18) :
    Sys2Proof.Laws.EncodeLength.Statement (.tbitwAbs pos addr) := rfl
theorem Sys2Proof.Laws.EncodeLength.storbImmBase (imm : BitVec 4) (base : Restricted) :
    Sys2Proof.Laws.EncodeLength.Statement (.storbImmBase imm base) := rfl
theorem Sys2Proof.Laws.EncodeLength.storbImmDisp16 (imm : BitVec 4) (disp : BitVec 16) (base : Restricted) :
    Sys2Proof.Laws.EncodeLength.Statement (.storbImmDisp16 imm disp base) := rfl
theorem Sys2Proof.Laws.EncodeLength.storbImmAbs (imm : BitVec 4) (addr : BitVec 18) :
    Sys2Proof.Laws.EncodeLength.Statement (.storbImmAbs imm addr) := rfl
theorem Sys2Proof.Laws.EncodeLength.storwImmBase (imm : BitVec 4) (base : Restricted) :
    Sys2Proof.Laws.EncodeLength.Statement (.storwImmBase imm base) := rfl
theorem Sys2Proof.Laws.EncodeLength.storwImmDisp16 (imm : BitVec 4) (disp : BitVec 16) (base : Restricted) :
    Sys2Proof.Laws.EncodeLength.Statement (.storwImmDisp16 imm disp base) := rfl
theorem Sys2Proof.Laws.EncodeLength.storwImmAbs (imm : BitVec 4) (addr : BitVec 18) :
    Sys2Proof.Laws.EncodeLength.Statement (.storwImmAbs imm addr) := rfl
end

