-- ==== Sys2Proof/Tests/Slice0.lean ====
section
/-! SUPPORT. The model's own tests. Expected words and results come from spec/opcode_table.json (masks, matches
and field positions) and from the vectors of 95_test_vectors.md section 3, whose id stands in a test's name
(M moves, A add and subtract, U multiply, K compare, Q compare and branch, G logic, H shift, T bits, B branch,
J jump, ST stack, L load and store, S conditions, P special registers, X exceptions, RX return, I boundary,
W wait, DB debug, Z reset). The witnesses show that the premises of the statements can be met. -/

namespace Sys2Proof.Tests

open Sys2Proof Sys2Proof.Machine

/-! ## Ill-formed terms are refused, one for each check -/

theorem test_wf_short_immediate_escape : (Instr.movwImm5 0b10001#5 3).wf = false := by decide

theorem test_wf_short_immediate_neighbours :
    (Instr.movwImm5 0b10000#5 3).wf = true ∧ (Instr.movwImm5 0b10010#5 3).wf = true := by decide

theorem test_wf_nop_word : (Instr.addubImm5 0 0).wf = false ∧ (Instr.addubImm5 0 1).wf = true := by decide

theorem test_wf_odd_disp5 : (Instr.beq0w .r0 0b00011#5).wf = false := by decide

theorem test_wf_odd_disp9 : (Instr.brDisp9 0b000000011#9).wf = false := by decide

theorem test_wf_odd_disp21 : (Instr.brDisp21 0x000003#21).wf = false := by decide

theorem test_wf_odd_bal_disp21 : (Instr.balLarge 2 0x000003#21).wf = false := by decide

theorem test_wf_disp5_escape :
    (Instr.loadwDisp5 0b10001#5 1 2).wf = false ∧ (Instr.loadwDisp5 0b01111#5 1 2).wf = true := by decide

theorem test_wf_far_base_absolute : (Instr.loadwFar 0 15 2).wf = false ∧ (Instr.storbFar 2 0 15).wf = false := by decide

/-! ## Undefined encodings are refused by name (30_encoding.md R113) -/

/-- The word is refused whatever follows it. -/
def refusedWord (w : Word) : Bool :=
  match decode w 0 with
  | .ok _ => false
  | .error _ => true

theorem test_undefined_words :
    refusedWord 0x5601#16 = true ∧ refusedWord 0x7C00#16 = true ∧ refusedWord 0x7800#16 = true ∧
    refusedWord 0x7E06#16 = true ∧ refusedWord 0x7F04#16 = true ∧ refusedWord 0x7E14#16 = true ∧
    refusedWord 0x6FCA#16 = true ∧ refusedWord 0x140C#16 = true ∧ refusedWord 0x7FE4#16 = true := by decide

/-! ## The host's table words -/

theorem test_table_word_two_bytes : decodeTableWord 16 0x4061 = some (.addbReg 0 3) := by decide

theorem test_table_word_four_bytes : decodeTableWord 32 0x000C2447 = some (.sbitwDisp16 3 12 .r0) := by decide

theorem test_table_word_escape : decodeTableWord 16 0x3851 = some (.movwImm16 0 2) := by decide

theorem test_table_word_refused : decodeTableWord 16 0x7C00 = none := by decide

/-! ## Each row of the opcode table decodes -/

theorem test_decode_register_format_1 :
    decode 0b0100000001010111#16 0 = .ok (.addbReg 11 2) ∧
    decode 0b0110000010000101#16 0 = .ok (.addwReg 2 4) ∧
    decode 0b0100001010110011#16 0 = .ok (.addubReg 9 5) ∧
    decode 0b0110001110010001#16 0 = .ok (.adduwReg 8 12) ∧
    decode 0b0100011010110011#16 0 = .ok (.mulbReg 9 5) ∧
    decode 0b0110011100101101#16 0 = .ok (.mulwReg 6 9) ∧
    decode 0b0100100110101011#16 0 = .ok (.ashubReg 5 13) ∧
    decode 0b0110100100001011#16 0 = .ok (.ashuwReg 5 8) ∧
    decode 0b0100101001010011#16 0 = .ok (.lshbReg 9 2) ∧
    decode 0b0110101110001111#16 0 = .ok (.lshwReg 7 12) ∧
    decode 0b0100110001111011#16 0 = .ok (.xorbReg 13 3) ∧
    decode 0b0110110001110001#16 0 = .ok (.xorwReg 8 3) ∧
    decode 0b0100111011110011#16 0 = .ok (.cmpbReg 9 7) ∧
    decode 0b0110111001100101#16 0 = .ok (.cmpwReg 2 3) := by
  decide

theorem test_decode_register_format_2 :
    decode 0b0101000000100101#16 0 = .ok (.andbReg 2 1) ∧
    decode 0b0111000110001001#16 0 = .ok (.andwReg 4 12) ∧
    decode 0b0101001101010111#16 0 = .ok (.addcbReg 11 10) ∧
    decode 0b0111001100110001#16 0 = .ok (.addcwReg 8 9) ∧
    decode 0b0101100001011011#16 0 = .ok (.movbReg 13 2) ∧
    decode 0b0111100010110001#16 0 = .ok (.movwReg 8 5) ∧
    decode 0b0101101101001011#16 0 = .ok (.subcbReg 5 10) ∧
    decode 0b0111101101001001#16 0 = .ok (.subcwReg 4 10) ∧
    decode 0b0101110100010011#16 0 = .ok (.orbReg 9 8) ∧
    decode 0b0111110000100101#16 0 = .ok (.orwReg 2 1) ∧
    decode 0b0101111000101111#16 0 = .ok (.subbReg 7 1) ∧
    decode 0b0111111001010011#16 0 = .ok (.subwReg 9 2) ∧
    decode 0b0111011100010011#16 0 = .ok (.tbitReg 9 8) := by
  decide

theorem test_decode_short_immediate_1 :
    decode 0b0000000101101101#16 0 = .ok (.addbImm5 0xD#5 11) ∧
    decode 0b0010000110000011#16 0 = .ok (.addwImm5 0x3#5 12) ∧
    decode 0b0000001110000111#16 0 = .ok (.addubImm5 0x7#5 12) ∧
    decode 0b0010001110010011#16 0 = .ok (.adduwImm5 0x13#5 12) ∧
    decode 0b0000011101001000#16 0 = .ok (.mulbImm5 0x8#5 10) ∧
    decode 0b0010011101100101#16 0 = .ok (.mulwImm5 0x5#5 11) ∧
    decode 0b0000100010101011#16 0 = .ok (.ashubImm5 0xB#5 5) ∧
    decode 0b0010100100010101#16 0 = .ok (.ashuwImm5 0x15#5 8) ∧
    decode 0b0000101101011000#16 0 = .ok (.lshbImm5 0x18#5 10) ∧
    decode 0b0010101011101000#16 0 = .ok (.lshwImm5 0x8#5 7) ∧
    decode 0b0000110011001010#16 0 = .ok (.xorbImm5 0xA#5 6) ∧
    decode 0b0010110101010000#16 0 = .ok (.xorwImm5 0x10#5 10) ∧
    decode 0b0000111110110011#16 0 = .ok (.cmpbImm5 0x13#5 13) ∧
    decode 0b0010111000110110#16 0 = .ok (.cmpwImm5 0x16#5 1) := by
  decide

theorem test_decode_short_immediate_2 :
    decode 0b0001000010010010#16 0 = .ok (.andbImm5 0x12#5 4) ∧
    decode 0b0011000110011010#16 0 = .ok (.andwImm5 0x1A#5 12) ∧
    decode 0b0001001001010011#16 0 = .ok (.addcbImm5 0x13#5 2) ∧
    decode 0b0011001001101100#16 0 = .ok (.addcwImm5 0xC#5 3) ∧
    decode 0b0001100001111001#16 0 = .ok (.movbImm5 0x19#5 3) ∧
    decode 0b0011100000111011#16 0 = .ok (.movwImm5 0x1B#5 1) ∧
    decode 0b0001101100111110#16 0 = .ok (.subcbImm5 0x1E#5 9) ∧
    decode 0b0011101011010111#16 0 = .ok (.subcwImm5 0x17#5 6) ∧
    decode 0b0001110010101000#16 0 = .ok (.orbImm5 0x8#5 5) ∧
    decode 0b0011110101011101#16 0 = .ok (.orwImm5 0x1D#5 10) ∧
    decode 0b0001111100100110#16 0 = .ok (.subbImm5 0x6#5 9) ∧
    decode 0b0011111000110011#16 0 = .ok (.subwImm5 0x13#5 1) ∧
    decode 0b0011011011111010#16 0 = .ok (.tbitImm5 0x1A#5 7) := by
  decide

theorem test_decode_medium_immediate_1 :
    decode 0b0000000100110001#16 0x9047#16 = .ok (.addbImm16 0x9047#16 9) ∧
    decode 0b0010000011010001#16 0xD1CF#16 = .ok (.addwImm16 0xD1CF#16 6) ∧
    decode 0b0000001011010001#16 0x96EE#16 = .ok (.addubImm16 0x96EE#16 6) ∧
    decode 0b0010001100010001#16 0x8F3F#16 = .ok (.adduwImm16 0x8F3F#16 8) ∧
    decode 0b0000011010010001#16 0x78C8#16 = .ok (.mulbImm16 0x78C8#16 4) ∧
    decode 0b0010011011110001#16 0x873E#16 = .ok (.mulwImm16 0x873E#16 7) ∧
    decode 0b0000100010010001#16 0x3829#16 = .ok (.ashubImm16 0x3829#16 4) ∧
    decode 0b0010100000110001#16 0xBE1C#16 = .ok (.ashuwImm16 0xBE1C#16 1) ∧
    decode 0b0000101100110001#16 0x9DF6#16 = .ok (.lshbImm16 0x9DF6#16 9) ∧
    decode 0b0010101010010001#16 0x4FFF#16 = .ok (.lshwImm16 0x4FFF#16 4) ∧
    decode 0b0000110011010001#16 0x7035#16 = .ok (.xorbImm16 0x7035#16 6) ∧
    decode 0b0010110001010001#16 0x8081#16 = .ok (.xorwImm16 0x8081#16 2) ∧
    decode 0b0000111010010001#16 0x31D9#16 = .ok (.cmpbImm16 0x31D9#16 4) ∧
    decode 0b0010111110110001#16 0x5A51#16 = .ok (.cmpwImm16 0x5A51#16 13) := by
  decide

theorem test_decode_medium_immediate_2 :
    decode 0b0001000000110001#16 0x7983#16 = .ok (.andbImm16 0x7983#16 1) ∧
    decode 0b0011000101010001#16 0x8C2B#16 = .ok (.andwImm16 0x8C2B#16 10) ∧
    decode 0b0001001001110001#16 0xC0A7#16 = .ok (.addcbImm16 0xC0A7#16 3) ∧
    decode 0b0011001100110001#16 0xB9F3#16 = .ok (.addcwImm16 0xB9F3#16 9) ∧
    decode 0b0001100101010001#16 0x922B#16 = .ok (.movbImm16 0x922B#16 10) ∧
    decode 0b0011100011110001#16 0xB8A8#16 = .ok (.movwImm16 0xB8A8#16 7) ∧
    decode 0b0001101110110001#16 0x483C#16 = .ok (.subcbImm16 0x483C#16 13) ∧
    decode 0b0011101100110001#16 0x148D#16 = .ok (.subcwImm16 0x148D#16 9) ∧
    decode 0b0001110101010001#16 0x01CA#16 = .ok (.orbImm16 0x1CA#16 10) ∧
    decode 0b0011110110010001#16 0x8BF6#16 = .ok (.orwImm16 0x8BF6#16 12) ∧
    decode 0b0001111110010001#16 0x4EDD#16 = .ok (.subbImm16 0x4EDD#16 12) ∧
    decode 0b0011111101110001#16 0x7BFD#16 = .ok (.subwImm16 0x7BFD#16 11) ∧
    decode 0b0011011001110001#16 0xA6C2#16 = .ok (.tbitImm16 0xA6C2#16 3) := by
  decide

theorem test_decode_special_1 :
    decode 0b0000001000000000#16 0 = .ok .nop ∧
    decode 0b0110011110000100#16 0x8963#16 = .ok (.movd 0x148963#21 12) ∧
    decode 0b0110000110101010#16 0 = .ok (.mulsb 5 13) ∧
    decode 0b0110001001010000#16 0 = .ok (.mulsw 8 2) ∧
    decode 0b0111111010110000#16 0 = .ok (.muluw .r8 5) ∧
    decode 0b0110100100101010#16 0 = .ok (.movxb 5 9) ∧
    decode 0b0110101011001000#16 0 = .ok (.movzb 4 6) ∧
    decode 0b0110110000111000#16 0 = .ok (.push 0x1#2 12) ∧
    decode 0b0110110010101110#16 0 = .ok (.pop 0x1#2 7) ∧
    decode 0b0110110101111010#16 0 = .ok (.popretSmall 0x3#2 13) ∧
    decode 0b0110110111010100#16 0 = .ok (.popretLarge 0x2#2 10) ∧
    decode 0b0111000010001100#16 0 = .ok (.lpr 6 0x4#4) ∧
    decode 0b0111001100010010#16 0 = .ok (.spr 0x8#4 9) ∧
    decode 0b0111100111111110#16 0 = .ok .retx := by
  decide

theorem test_decode_special_2 :
    decode 0b0111101111101000#16 0 = .ok (.excp 0x4#4) ∧
    decode 0b0111110111011110#16 0 = .ok .di ∧
    decode 0b0111110111111110#16 0 = .ok .ei ∧
    decode 0b0111111001100100#16 0 = .ok (.loadm 0x3#2) ∧
    decode 0b0111111010100100#16 0 = .ok (.storm 0x1#2) ∧
    decode 0b0111111111100110#16 0 = .ok .eiwait ∧
    decode 0b0111111111111110#16 0 = .ok .wait := by
  decide

theorem test_decode_compare_and_branch :
    decode 0b0001010000100011#16 0 = .ok (.beq0b .r1 0x2#5) ∧
    decode 0b0011010100000101#16 0 = .ok (.beq0w .r8 0x4#5) ∧
    decode 0b0001010101100011#16 0 = .ok (.beq1b .r9 0x2#5) ∧
    decode 0b0011010101100101#16 0 = .ok (.beq1w .r9 0x4#5) ∧
    decode 0b0001010010101011#16 0 = .ok (.bne0b .r1 0xA#5) ∧
    decode 0b0011010010101011#16 0 = .ok (.bne0w .r1 0xA#5) ∧
    decode 0b0001010011101011#16 0 = .ok (.bne1b .r1 0xA#5) ∧
    decode 0b0011010011101111#16 0 = .ok (.bne1w .r1 0xE#5) := by
  decide

theorem test_decode_scond :
    decode 0b0110111000000110#16 0 = .ok (.seq 3) ∧
    decode 0b0110111000100100#16 0 = .ok (.sne 2) ∧
    decode 0b0110111001010100#16 0 = .ok (.scs 10) ∧
    decode 0b0110111001111010#16 0 = .ok (.scc 13) ∧
    decode 0b0110111010001110#16 0 = .ok (.shi 7) ∧
    decode 0b0110111010100010#16 0 = .ok (.sls 1) ∧
    decode 0b0110111011011000#16 0 = .ok (.sgt 12) ∧
    decode 0b0110111011101010#16 0 = .ok (.sle 5) ∧
    decode 0b0110111100001000#16 0 = .ok (.sfs 4) ∧
    decode 0b0110111100110100#16 0 = .ok (.sfc 10) ∧
    decode 0b0110111101001100#16 0 = .ok (.slo 6) ∧
    decode 0b0110111101111010#16 0 = .ok (.shs 13) ∧
    decode 0b0110111110001100#16 0 = .ok (.slt 6) ∧
    decode 0b0110111110100010#16 0 = .ok (.sge 1) := by
  decide

theorem test_decode_branch_disp9_1 :
    decode 0b0100000000001010#16 0 = .ok (.beqDisp9 0xA#9) ∧
    decode 0b0100000000111100#16 0 = .ok (.bneDisp9 0x1C#9) ∧
    decode 0b0100001001000000#16 0 = .ok (.bcsDisp9 0x20#9) ∧
    decode 0b0100110001100000#16 0 = .ok (.bccDisp9 0xC0#9) ∧
    decode 0b0100010010010000#16 0 = .ok (.bhiDisp9 0x50#9) ∧
    decode 0b0100111010111100#16 0 = .ok (.blsDisp9 0xFC#9) ∧
    decode 0b0100111011001000#16 0 = .ok (.bgtDisp9 0xE8#9) ∧
    decode 0b0101110011110000#16 0 = .ok (.bleDisp9 0x1D0#9) ∧
    decode 0b0101011100001000#16 0 = .ok (.bfsDisp9 0x168#9) ∧
    decode 0b0101101100100010#16 0 = .ok (.bfcDisp9 0x1A2#9) ∧
    decode 0b0101111101010010#16 0 = .ok (.bloDisp9 0x1F2#9) ∧
    decode 0b0100110101111010#16 0 = .ok (.bhsDisp9 0xDA#9) ∧
    decode 0b0101000110010100#16 0 = .ok (.bltDisp9 0x114#9) ∧
    decode 0b0101110110110100#16 0 = .ok (.bgeDisp9 0x1D4#9) := by
  decide

theorem test_decode_branch_disp9_2 :
    decode 0b0101011111001000#16 0 = .ok (.brDisp9 0x168#9) := by
  decide

theorem test_decode_branch_disp17_1 :
    decode 0b0001010000001110#16 0x926A#16 = .ok (.beqDisp17 0x926A#17) ∧
    decode 0b0001010000111110#16 0xB60B#16 = .ok (.bneDisp17 0x1B60B#17) ∧
    decode 0b0001010001001110#16 0x050E#16 = .ok (.bcsDisp17 0x50E#17) ∧
    decode 0b0001010001101110#16 0x5A69#16 = .ok (.bccDisp17 0x5A69#17) ∧
    decode 0b0001010010011110#16 0x97BA#16 = .ok (.bhiDisp17 0x197BA#17) ∧
    decode 0b0001010010111110#16 0x8D4B#16 = .ok (.blsDisp17 0x18D4B#17) ∧
    decode 0b0001010011001110#16 0xDFDB#16 = .ok (.bgtDisp17 0xDFDB#17) ∧
    decode 0b0001010011101110#16 0xE84D#16 = .ok (.bleDisp17 0xE84D#17) ∧
    decode 0b0001010100001110#16 0x5A17#16 = .ok (.bfsDisp17 0x5A17#17) ∧
    decode 0b0001010100111110#16 0x9DDE#16 = .ok (.bfcDisp17 0x19DDE#17) ∧
    decode 0b0001010101001110#16 0xC9F3#16 = .ok (.bloDisp17 0xC9F3#17) ∧
    decode 0b0001010101101110#16 0xF42A#16 = .ok (.bhsDisp17 0xF42A#17) ∧
    decode 0b0001010110001110#16 0xC19E#16 = .ok (.bltDisp17 0xC19E#17) ∧
    decode 0b0001010110111110#16 0x93B6#16 = .ok (.bgeDisp17 0x193B6#17) := by
  decide

theorem test_decode_branch_disp17_2 :
    decode 0b0001010111011110#16 0x4FE9#16 = .ok (.brDisp17 0x14FE9#17) := by
  decide

theorem test_decode_branch_disp21_1 :
    decode 0b0111010000001110#16 0xD737#16 = .ok (.beqDisp21 0x1ED736#21) ∧
    decode 0b0111010000110100#16 0x96EB#16 = .ok (.bneDisp21 0x1596EA#21) ∧
    decode 0b0111010001000000#16 0xF35F#16 = .ok (.bcsDisp21 0x10F35E#21) ∧
    decode 0b0111010001111100#16 0x4463#16 = .ok (.bccDisp21 0x1D4462#21) ∧
    decode 0b0111010010000010#16 0xB6EA#16 = .ok (.bhiDisp21 0x2B6EA#21) ∧
    decode 0b0111010010101100#16 0x1496#16 = .ok (.blsDisp21 0xC1496#21) ∧
    decode 0b0111010011010100#16 0x722D#16 = .ok (.bgtDisp21 0x15722C#21) ∧
    decode 0b0111010011100010#16 0x18A2#16 = .ok (.bleDisp21 0x218A2#21) ∧
    decode 0b0111010100010010#16 0x2406#16 = .ok (.bfsDisp21 0x32406#21) ∧
    decode 0b0111010100100100#16 0x9CD2#16 = .ok (.bfcDisp21 0x49CD2#21) ∧
    decode 0b0111010101011100#16 0x2462#16 = .ok (.bloDisp21 0xD2462#21) ∧
    decode 0b0111010101111010#16 0xD70A#16 = .ok (.bhsDisp21 0xBD70A#21) ∧
    decode 0b0111010110011100#16 0xADFF#16 = .ok (.bltDisp21 0x1DADFE#21) ∧
    decode 0b0111010110101000#16 0x5232#16 = .ok (.bgeDisp21 0x85232#21) := by
  decide

theorem test_decode_branch_disp21_2 :
    decode 0b0111010111001100#16 0x8424#16 = .ok (.brDisp21 0xC8424#21) := by
  decide

theorem test_decode_link :
    decode 0b0011010100101110#16 0xDEEE#16 = .ok (.balSmall 9 0xDEEE#17) ∧
    decode 0b0111011000111100#16 0x1A23#16 = .ok (.balLarge 1 0x1D1A22#21) := by
  decide

theorem test_decode_jump_small_1 :
    decode 0b0101010000001101#16 0 = .ok (.jeqSmall 6) ∧
    decode 0b0101010000111011#16 0 = .ok (.jneSmall 13) ∧
    decode 0b0101010001000101#16 0 = .ok (.jcsSmall 2) ∧
    decode 0b0101010001101011#16 0 = .ok (.jccSmall 5) ∧
    decode 0b0101010010011001#16 0 = .ok (.jhiSmall 12) ∧
    decode 0b0101010010111001#16 0 = .ok (.jlsSmall 12) ∧
    decode 0b0101010011010111#16 0 = .ok (.jgtSmall 11) ∧
    decode 0b0101010011100111#16 0 = .ok (.jleSmall 3) ∧
    decode 0b0101010100010111#16 0 = .ok (.jfsSmall 11) ∧
    decode 0b0101010100110101#16 0 = .ok (.jfcSmall 10) ∧
    decode 0b0101010101001011#16 0 = .ok (.jloSmall 5) ∧
    decode 0b0101010101101101#16 0 = .ok (.jhsSmall 6) ∧
    decode 0b0101010110011011#16 0 = .ok (.jltSmall 13) ∧
    decode 0b0101010110111011#16 0 = .ok (.jgeSmall 13) := by
  decide

theorem test_decode_jump_small_2 :
    decode 0b0101010111010001#16 0 = .ok (.jumpSmall 8) ∧
    decode 0b0111010010010111#16 0 = .ok (.jalSmall 4 11) := by
  decide

theorem test_decode_jump_large_1 :
    decode 0b0001011000010011#16 0 = .ok (.jeqLarge 9) ∧
    decode 0b0001011000110001#16 0 = .ok (.jneLarge 8) ∧
    decode 0b0001011001010111#16 0 = .ok (.jcsLarge 11) ∧
    decode 0b0001011001101001#16 0 = .ok (.jccLarge 4) ∧
    decode 0b0001011010011011#16 0 = .ok (.jhiLarge 13) ∧
    decode 0b0001011010111001#16 0 = .ok (.jlsLarge 12) ∧
    decode 0b0001011011001101#16 0 = .ok (.jgtLarge 6) ∧
    decode 0b0001011011111001#16 0 = .ok (.jleLarge 12) ∧
    decode 0b0001011100011001#16 0 = .ok (.jfsLarge 12) ∧
    decode 0b0001011100101001#16 0 = .ok (.jfcLarge 4) ∧
    decode 0b0001011101001101#16 0 = .ok (.jloLarge 6) ∧
    decode 0b0001011101110011#16 0 = .ok (.jhsLarge 9) ∧
    decode 0b0001011110010111#16 0 = .ok (.jltLarge 11) ∧
    decode 0b0001011110101001#16 0 = .ok (.jgeLarge 4) := by
  decide

theorem test_decode_jump_large_2 :
    decode 0b0001011111001111#16 0 = .ok (.jumpLarge 7) ∧
    decode 0b0001011100101010#16 0 = .ok (.jalLarge 9 5) := by
  decide

theorem test_decode_load :
    decode 0b1000001010010000#16 0 = .ok (.loadbDisp5 0x2#5 8 4) ∧
    decode 0b1001111010000010#16 0 = .ok (.loadbDisp5 0x1E#5 1 4) ∧
    decode 0b1001000011110011#16 0x6E1C#16 = .ok (.loadbDisp18 0x6E1C#18 9 7) ∧
    decode 0b1001110011101101#16 0x6CFC#16 = .ok (.loadbFar 0x26CFC#18 6 7) ∧
    decode 0b1001110010011111#16 0x1BD4#16 = .ok (.loadbAbs 0x21BD4#18 4) ∧
    decode 0b1010100000111011#16 0 = .ok (.loadwDisp5 0x9#5 13 1) ∧
    decode 0b1011110011100110#16 0 = .ok (.loadwDisp5 0x1C#5 3 7) ∧
    decode 0b1011010010101111#16 0x999A#16 = .ok (.loadwDisp18 0x2999A#18 7 5) ∧
    decode 0b1011101101110011#16 0xE998#16 = .ok (.loadwFar 0x1E998#18 9 11) ∧
    decode 0b1011100110011111#16 0x68B6#16 = .ok (.loadwAbs 0x68B6#18 12) := by
  decide

theorem test_decode_store :
    decode 0b1100100001010101#16 0 = .ok (.storbDisp5 2 0x9#5 10) ∧
    decode 0b1101110100110100#16 0 = .ok (.storbDisp5 9 0x1C#5 10) ∧
    decode 0b1101011001011011#16 0x29BE#16 = .ok (.storbDisp18 2 0x329BE#18 13) ∧
    decode 0b1101101100101001#16 0x9320#16 = .ok (.storbFar 9 0x19320#18 4) ∧
    decode 0b1101100101111111#16 0x6BC1#16 = .ok (.storbAbs 11 0x6BC1#18) ∧
    decode 0b1110010100011000#16 0 = .ok (.storwDisp5 8 0x4#5 12) ∧
    decode 0b1111100010110100#16 0 = .ok (.storwDisp5 5 0x18#5 10) ∧
    decode 0b1111001100001001#16 0xA5A4#16 = .ok (.storwDisp18 8 0x1A5A4#18 4) ∧
    decode 0b1111101110101101#16 0x441A#16 = .ok (.storwFar 13 0x1441A#18 6) ∧
    decode 0b1111101010011111#16 0x0706#16 = .ok (.storwAbs 4 0x10706#18) := by
  decide

theorem test_decode_bits_base :
    decode 0b0100010100011001#16 0 = .ok (.cbitbBase 0xC#4 .r8) ∧
    decode 0b0110010100000111#16 0 = .ok (.cbitwBase 0x3#4 .r8) ∧
    decode 0b0100010101000111#16 0 = .ok (.sbitbBase 0x3#4 .r8) ∧
    decode 0b0110010101010111#16 0 = .ok (.sbitwBase 0xB#4 .r8) ∧
    decode 0b0100010110111011#16 0 = .ok (.tbitbBase 0xD#4 .r9) ∧
    decode 0b0110010010111011#16 0 = .ok (.tbitwBase 0xD#4 .r1) ∧
    decode 0b0100010111000011#16 0 = .ok (.storbImmBase 0x1#4 .r8) ∧
    decode 0b0110010111100111#16 0 = .ok (.storwImmBase 0x3#4 .r9) := by
  decide

theorem test_decode_bits_disp16 :
    decode 0b0000010000111101#16 0x27C4#16 = .ok (.cbitbDisp16 0xE#4 0x27C4#16 .r1) ∧
    decode 0b0010010100011101#16 0x77CD#16 = .ok (.cbitwDisp16 0xE#4 0x77CD#16 .r8) ∧
    decode 0b0000010101100101#16 0xAB13#16 = .ok (.sbitbDisp16 0x2#4 0xAB13#16 .r9) ∧
    decode 0b0010010101000111#16 0x419E#16 = .ok (.sbitwDisp16 0x3#4 0x419E#16 .r8) ∧
    decode 0b0000010110100111#16 0x79DB#16 = .ok (.tbitbDisp16 0x3#4 0x79DB#16 .r9) ∧
    decode 0b0010010010101101#16 0x44F2#16 = .ok (.tbitwDisp16 0x6#4 0x44F2#16 .r1) ∧
    decode 0b0000010111010111#16 0xF6DD#16 = .ok (.storbImmDisp16 0xB#4 0xF6DD#16 .r8) ∧
    decode 0b0010010011110101#16 0x58F0#16 = .ok (.storwImmDisp16 0xA#4 0x58F0#16 .r1) := by
  decide

theorem test_decode_bits_abs :
    decode 0b0000010100110110#16 0x5901#16 = .ok (.cbitbAbs 0xB#4 0x35901#18) ∧
    decode 0b0010010100101000#16 0x181F#16 = .ok (.cbitwAbs 0x4#4 0x3181F#18) ∧
    decode 0b0000010001001000#16 0xE3F3#16 = .ok (.sbitbAbs 0x4#4 0xE3F3#18) ∧
    decode 0b0010010101110010#16 0xD15C#16 = .ok (.sbitwAbs 0x9#4 0x3D15C#18) ∧
    decode 0b0000010110111000#16 0x6710#16 = .ok (.tbitbAbs 0xC#4 0x36710#18) ∧
    decode 0b0010010110111010#16 0x2E63#16 = .ok (.tbitwAbs 0xD#4 0x32E63#18) ∧
    decode 0b0000010111010110#16 0x6412#16 = .ok (.storbImmAbs 0xB#4 0x26412#18) ∧
    decode 0b0010010111110010#16 0xE1E8#16 = .ok (.storwImmAbs 0x9#4 0x3E1E8#18) := by
  decide
/-! ## One step -/

/-- A machine at pc with the given PSR, registers and 16-bit words in memory (low byte first); all else as
after reset. -/
def machine (pc psr : Nat) (regs words : List (Nat × Nat)) : State :=
  { State.reset with
    regs := regs.foldl (fun r p => r.set (Fin.ofNat 16 p.1) (BitVec.ofNat 16 p.2)) State.reset.regs
    pc := BitVec.ofNat 21 pc
    psr := BitVec.ofNat 16 psr
    mem := words.foldl (fun m p => memWrite (memWrite m p.1 (BitVec.ofNat 8 p.2)) ((p.1 + 1) % 2 ^ 21)
      (BitVec.ofNat 8 (p.2 / 256))) [] }

/-- The outcome is a next state with the property. -/
def answers (o : Result) (f : State → Bool) : Bool :=
  match o with
  | .next t => f t
  | .fault _ => false
  | .refused _ => false

/-- A next state with this pc and PSR, these registers and these memory bytes. -/
def ends (o : Result) (pc psr : Nat) (regs mem : List (Nat × Nat)) : Bool :=
  answers o fun t => t.pc.toNat == pc && t.psr.toNat == psr &&
    regs.all (fun p => (t.reg (Fin.ofNat 16 p.1)).toNat == p.2) &&
    mem.all (fun p => (memRead t.mem p.1).toNat == p.2)

/-- A next state with these values of ISP, INTBASE, CFG, DCR, DSR and CAR. -/
def endsSpecials (o : Result) (sp : List Nat) : Bool :=
  answers o fun t => [t.isp.toNat, t.intbase.toNat, t.cfg.toNat, t.dcr.toNat, t.dsr.toNat, t.car.toNat] == sp

theorem test_M1_movbReg :
    ends (step (machine 0x1000 0x200 [(0, 0x12AB), (6, 0xFFFF)] [(0x1000, 0x58C1)]))
      0x1002 0x200 [(6, 0xFFAB)] [] = true := by
  decide

theorem test_M2_movwImm5 :
    ends (step (machine 0x1000 0x200 [] [(0x1000, 0x385F)]))
      0x1002 0x200 [(2, 0xFFFF)] [] = true := by
  decide

theorem test_M3_movwImm5 :
    ends (step (machine 0x1000 0x200 [] [(0x1000, 0x3850)]))
      0x1002 0x200 [(2, 0xFFF0)] [] = true := by
  decide

theorem test_M4_movbImm5 :
    ends (step (machine 0x1000 0x200 [(2, 0x1234)] [(0x1000, 0x1850)]))
      0x1002 0x200 [(2, 0x12F0)] [] = true := by
  decide

theorem test_M6_movwImm16 :
    ends (step (machine 0x1000 0x200 [] [(0x1000, 0x3851), (0x1002, 0x8000)]))
      0x1004 0x200 [(2, 0x8000)] [] = true := by
  decide

theorem test_M7_movwImm16 :
    ends (step (machine 0x1000 0x200 [] [(0x1000, 0x3851), (0x1002, 0xFFF1)]))
      0x1004 0x200 [(2, 0xFFF1)] [] = true := by
  decide

theorem test_M8_movd :
    ends (step (machine 0x1000 0x200 [] [(0x1000, 0x661E), (0x1002, 0xFFFF)]))
      0x1004 0x200 [(0, 0xFFFF), (1, 0x1F)] [] = true := by
  decide

theorem test_M9_movd :
    ends (step (machine 0x1000 0x200 [(11, 0xAAAA), (12, 0xBBBB)] [(0x1000, 0x6560), (0x1002, 0)]))
      0x1004 0x200 [(11, 0), (12, 0)] [] = true := by
  decide

theorem test_M10_movxb :
    ends (step (machine 0x1000 0x200 [(8, 0x80)] [(0x1000, 0x6810)]))
      0x1002 0x200 [(0, 0xFF80)] [] = true := by
  decide

theorem test_M11_movxb :
    ends (step (machine 0x1000 0x200 [(8, 0xFF7F)] [(0x1000, 0x6810)]))
      0x1002 0x200 [(0, 0x7F)] [] = true := by
  decide

theorem test_M12_movzb :
    ends (step (machine 0x1000 0x200 [(8, 0xFFFF)] [(0x1000, 0x6A10)]))
      0x1002 0x200 [(0, 0xFF)] [] = true := by
  decide

theorem test_A1_addwReg :
    ends (step (machine 0x1000 0x200 [(0, 0x7FFF), (1, 1)] [(0x1000, 0x6003)]))
      0x1002 0x220 [(0, 0x8000)] [] = true := by
  decide

theorem test_A2_addwReg :
    ends (step (machine 0x1000 0x200 [(0, 0xFFFF), (1, 1)] [(0x1000, 0x6003)]))
      0x1002 0x201 [(0, 0)] [] = true := by
  decide

theorem test_A4_addbReg :
    ends (step (machine 0x1000 0x200 [(0, 0x127F), (1, 0xFF01)] [(0x1000, 0x4003)]))
      0x1002 0x220 [(0, 0x1280)] [] = true := by
  decide

theorem test_A5_addbReg :
    ends (step (machine 0x1000 0x2E5 [(0, 0x1200), (1, 0)] [(0x1000, 0x4003)]))
      0x1002 0x2C4 [(0, 0x1200)] [] = true := by
  decide

theorem test_A6_adduwReg :
    ends (step (machine 0x1000 0x221 [(0, 0xFFFF), (1, 1)] [(0x1000, 0x6203)]))
      0x1002 0x221 [(0, 0)] [] = true := by
  decide

theorem test_A7_addubImm5 :
    ends (step (machine 0x1000 0x200 [(0, 0x1200)] [(0x1000, 0x21F)]))
      0x1002 0x200 [(0, 0x12FF)] [] = true := by
  decide

theorem test_A8_nop :
    ends (step (machine 0x1000 0x2E5 [(0, 0x1234)] [(0x1000, 0x200)]))
      0x1002 0x2E5 [] [] = true := by
  decide

theorem test_A9_addcwReg :
    ends (step (machine 0x1000 0x201 [(0, 0xFFFF), (1, 0)] [(0x1000, 0x7203)]))
      0x1002 0x201 [(0, 0)] [] = true := by
  decide

theorem test_A10_addcwReg :
    ends (step (machine 0x1000 0x201 [(0, 0x7FFF), (1, 0)] [(0x1000, 0x7203)]))
      0x1002 0x220 [(0, 0x8000)] [] = true := by
  decide

theorem test_A11_addcbImm5 :
    ends (step (machine 0x1000 0x201 [(0, 0)] [(0x1000, 0x121F)]))
      0x1002 0x201 [(0, 0)] [] = true := by
  decide

theorem test_A12_subwReg :
    ends (step (machine 0x1000 0x200 [(0, 0), (1, 1)] [(0x1000, 0x7E03)]))
      0x1002 0x201 [(0, 0xFFFF)] [] = true := by
  decide

theorem test_A13_subwReg :
    ends (step (machine 0x1000 0x200 [(0, 0x8000), (1, 1)] [(0x1000, 0x7E03)]))
      0x1002 0x220 [(0, 0x7FFF)] [] = true := by
  decide

theorem test_A16_subbImm5 :
    ends (step (machine 0x1000 0x200 [(0, 0xAB00)] [(0x1000, 0x1E01)]))
      0x1002 0x201 [(0, 0xABFF)] [] = true := by
  decide

theorem test_A17_subcwReg :
    ends (step (machine 0x1000 0x201 [(0, 0), (1, 0)] [(0x1000, 0x7A03)]))
      0x1002 0x201 [(0, 0xFFFF)] [] = true := by
  decide

theorem test_A18_subcwReg :
    ends (step (machine 0x1000 0x201 [(0, 0x8000), (1, 0x7FFF)] [(0x1000, 0x7A03)]))
      0x1002 0x220 [(0, 0)] [] = true := by
  decide

theorem test_A20_subcbReg :
    ends (step (machine 0x1000 0x201 [(0, 0x5510), (1, 0xF)] [(0x1000, 0x5A03)]))
      0x1002 0x200 [(0, 0x5500)] [] = true := by
  decide

theorem test_U1_mulwReg :
    ends (step (machine 0x1000 0x2E5 [(0, 0xFFFF), (1, 0xFFFF)] [(0x1000, 0x6603)]))
      0x1002 0x2E5 [(0, 1)] [] = true := by
  decide

theorem test_U2_mulwReg :
    ends (step (machine 0x1000 0x200 [(0, 0x123), (1, 0x100)] [(0x1000, 0x6603)]))
      0x1002 0x200 [(0, 0x2300)] [] = true := by
  decide

theorem test_U3_mulbReg :
    ends (step (machine 0x1000 0x200 [(0, 0xAB10), (1, 0xCD10)] [(0x1000, 0x4603)]))
      0x1002 0x200 [(0, 0xAB00)] [] = true := by
  decide

theorem test_U4_mulbImm5 :
    ends (step (machine 0x1000 0x200 [(0, 3)] [(0x1000, 0x61E)]))
      0x1002 0x200 [(0, 0xFA)] [] = true := by
  decide

theorem test_U5_mulsb :
    ends (step (machine 0x1000 0x200 [(0, 0x1280), (1, 0x3480)] [(0x1000, 0x6002)]))
      0x1002 0x200 [(0, 0x4000)] [] = true := by
  decide

theorem test_U6_mulsb :
    ends (step (machine 0x1000 0x200 [(0, 0x7F), (1, 0x80)] [(0x1000, 0x6002)]))
      0x1002 0x200 [(0, 0xC080)] [] = true := by
  decide

theorem test_U7_mulsw :
    ends (step (machine 0x1000 0x200 [(1, 0x8000), (2, 0x8000)] [(0x1000, 0x6242)]))
      0x1002 0x200 [(2, 0), (3, 0x4000)] [] = true := by
  decide

theorem test_U8_mulsw :
    ends (step (machine 0x1000 0x200 [(1, 0xFFFF), (2, 1), (3, 0x1234)] [(0x1000, 0x6242)]))
      0x1002 0x200 [(2, 0xFFFF), (3, 0xFFFF)] [] = true := by
  decide

theorem test_U10_muluw :
    ends (step (machine 0x1000 0x200 [(0, 2), (8, 0x8000)] [(0x1000, 0x7E10)]))
      0x1002 0x200 [(0, 0), (1, 1)] [] = true := by
  decide

theorem test_U11_muluw :
    ends (step (machine 0x1000 0x200 [(1, 0xFFFF), (2, 0xFFFF)] [(0x1000, 0x7E42)]))
      0x1002 0x200 [(2, 1), (3, 0xFFFE)] [] = true := by
  decide

theorem test_K1_cmpwReg :
    ends (step (machine 0x1000 0x200 [(0, 0x7FFF), (1, 0x8000)] [(0x1000, 0x6E03)]))
      0x1002 0x204 [] [] = true := by
  decide

theorem test_K2_cmpwReg :
    ends (step (machine 0x1000 0x221 [(0, 0x8000), (1, 0x7FFF)] [(0x1000, 0x6E03)]))
      0x1002 0x2A1 [] [] = true := by
  decide

theorem test_K4_cmpbReg :
    ends (step (machine 0x1000 0x200 [(0, 0x347F), (1, 0x1280)] [(0x1000, 0x4E03)]))
      0x1002 0x204 [] [] = true := by
  decide

theorem test_K5_cmpbImm5 :
    ends (step (machine 0x1000 0x200 [(0, 0xFF)] [(0x1000, 0xE1F)]))
      0x1002 0x240 [] [] = true := by
  decide

theorem test_K6_cmpwImm5 :
    ends (step (machine 0x1000 0x200 [(0, 0xFF)] [(0x1000, 0x2E1F)]))
      0x1002 0x204 [] [] = true := by
  decide

theorem test_K7_cmpwImm16 :
    ends (step (machine 0x1000 0x200 [(0, 0)] [(0x1000, 0x2E11), (0x1002, 0x8000)]))
      0x1004 0x204 [] [] = true := by
  decide

theorem test_Q1_beq0b :
    ends (step (machine 0x1000 0x200 [(0, 0xFF00)] [(0x1000, 0x141F)]))
      0x101E 0x200 [] [] = true := by
  decide

theorem test_Q2_beq0w :
    ends (step (machine 0x1000 0x200 [(0, 0xFF00)] [(0x1000, 0x341F)]))
      0x1002 0x200 [] [] = true := by
  decide

theorem test_Q3_bne0w :
    ends (step (machine 0x1000 0x200 [(9, 0)] [(0x1000, 0x35A3)]))
      0x1002 0x200 [] [] = true := by
  decide

theorem test_Q4_beq1w :
    ends (step (machine 0x1000 0x200 [(1, 1)] [(0x1000, 0x3461)]))
      0x1000 0x200 [] [] = true := by
  decide

theorem test_Q5_bne1b :
    ends (step (machine 0x1000 0x200 [(8, 0x101)] [(0x1000, 0x15D1)]))
      0x1002 0x200 [] [] = true := by
  decide

theorem test_Q6_bne1b :
    ends (step (machine 0x1000 0x200 [(8, 0x100)] [(0x1000, 0x15D1)]))
      0x1010 0x200 [] [] = true := by
  decide

theorem test_Q7_beq0w :
    ends (step (machine 0x1FFFF0 0x200 [(0, 0)] [(0x1FFFF0, 0x341F)]))
      0xE 0x200 [] [] = true := by
  decide

theorem test_G1_andwImm16 :
    ends (step (machine 0x1000 0x2E5 [(3, 0x1234)] [(0x1000, 0x3071), (0x1002, 0xFF00)]))
      0x1004 0x2E5 [(3, 0x1200)] [] = true := by
  decide

theorem test_G2_andbImm5 :
    ends (step (machine 0x1000 0x200 [(3, 0x12FF)] [(0x1000, 0x107E)]))
      0x1002 0x200 [(3, 0x12FE)] [] = true := by
  decide

theorem test_G3_orwImm5 :
    ends (step (machine 0x1000 0x200 [(3, 0x8000)] [(0x1000, 0x3C61)]))
      0x1002 0x200 [(3, 0x8001)] [] = true := by
  decide

theorem test_G4_xorwReg :
    ends (step (machine 0x1000 0x200 [(3, 0xBEEF)] [(0x1000, 0x6C67)]))
      0x1002 0x200 [(3, 0)] [] = true := by
  decide

theorem test_G5_xorbImm5 :
    ends (step (machine 0x1000 0x200 [(3, 0x1234)] [(0x1000, 0xC7F)]))
      0x1002 0x200 [(3, 0x12CB)] [] = true := by
  decide

theorem test_H1_ashuwImm5 :
    ends (step (machine 0x1000 0x200 [(1, 1)] [(0x1000, 0x282F)]))
      0x1002 0x200 [(1, 0x8000)] [] = true := by
  decide

theorem test_H2_ashuwImm16 :
    ends (step (machine 0x1000 0x200 [(1, 0x8000)] [(0x1000, 0x2831), (0x1002, 0xFFF1)]))
      0x1004 0x200 [(1, 0xFFFF)] [] = true := by
  decide

theorem test_H3_ashuwImm5 :
    ends (step (machine 0x1000 0x200 [(1, 0x8001)] [(0x1000, 0x283F)]))
      0x1002 0x200 [(1, 0xC000)] [] = true := by
  decide

theorem test_H4_ashubImm5 :
    ends (step (machine 0x1000 0x200 [(1, 0x12FF)] [(0x1000, 0x827)]))
      0x1002 0x200 [(1, 0x1280)] [] = true := by
  decide

theorem test_H5_ashubImm5 :
    ends (step (machine 0x1000 0x200 [(1, 0x1280)] [(0x1000, 0x839)]))
      0x1002 0x200 [(1, 0x12FF)] [] = true := by
  decide

theorem test_H6_ashuwReg :
    ends (step (machine 0x1000 0x200 [(1, 0xF00F), (2, 0xFFFC)] [(0x1000, 0x6825)]))
      0x1002 0x200 [(1, 0xFF00)] [] = true := by
  decide

theorem test_H7_ashuwReg :
    ends (step (machine 0x1000 0x200 [(1, 0xF00F), (2, 0x1204)] [(0x1000, 0x6825)]))
      0x1002 0x200 [(1, 0xF0)] [] = true := by
  decide

theorem test_H9_lshwImm16 :
    ends (step (machine 0x1000 0x200 [(1, 0x8000)] [(0x1000, 0x2A31), (0x1002, 0xFFF1)]))
      0x1004 0x200 [(1, 1)] [] = true := by
  decide

theorem test_H10_lshwImm5 :
    ends (step (machine 0x1000 0x200 [(1, 0x8001)] [(0x1000, 0x2A3F)]))
      0x1002 0x200 [(1, 0x4000)] [] = true := by
  decide

theorem test_H11_lshbImm5 :
    ends (step (machine 0x1000 0x200 [(1, 0x1280)] [(0x1000, 0xA39)]))
      0x1002 0x200 [(1, 0x1201)] [] = true := by
  decide

theorem test_H12_lshwImm5 :
    ends (step (machine 0x1000 0x200 [(1, 0xFFFF)] [(0x1000, 0x2A2F)]))
      0x1002 0x200 [(1, 0x8000)] [] = true := by
  decide

theorem test_T1_tbitImm5 :
    ends (step (machine 0x1000 0x200 [(1, 0x8000)] [(0x1000, 0x362F)]))
      0x1002 0x220 [] [] = true := by
  decide

theorem test_T2_tbitImm5 :
    ends (step (machine 0x1000 0x220 [(1, 0xFFFE)] [(0x1000, 0x3620)]))
      0x1002 0x200 [] [] = true := by
  decide

theorem test_T3_tbitReg :
    ends (step (machine 0x1000 0x200 [(1, 0x10), (2, 4)] [(0x1000, 0x7625)]))
      0x1002 0x220 [] [] = true := by
  decide

theorem test_T4_tbitwBase :
    ends (step (machine 0x1000 0x200 [(0, 0x2001)] [(0x1000, 0x649F), (0x2001, 0x8000)]))
      0x1002 0x220 [] [] = true := by
  decide

theorem test_T5_tbitbDisp16 :
    ends (step (machine 0x1000 0x200 [(9, 0xFFFF)] [(0x1000, 0x5AF), (0x1002, 0xFFFF), (0x1FFFE, 0x80)]))
      0x1004 0x220 [] [] = true := by
  decide

theorem test_T6_sbitbAbs :
    ends (step (machine 0x1000 0x200 [] [(0x1000, 0x560), (0x1002, 0xFFFF), (0x3FFFF, 0xF0)]))
      0x1004 0x200 [] [(0x3FFFF, 0xF1)] = true := by
  decide

theorem test_T7_sbitbAbs :
    ends (step (machine 0x1000 0x200 [] [(0x1000, 0x560), (0x1002, 0xFFFF), (0x3FFFF, 0xF1)]))
      0x1004 0x220 [] [] = true := by
  decide

theorem test_T8_sbitwBase :
    ends (step (machine 0x1000 0x200 [(1, 0xFFFF)] [(0x1000, 0x647F), (0xFFFF, 1)]))
      0x1002 0x200 [] [(0x10000, 0x80), (0xFFFF, 1)] = true := by
  decide

theorem test_T9_cbitwDisp16 :
    ends (step (machine 0x1000 0x200 [(8, 0x3000)] [(0x1000, 0x2501), (0x1002, 4), (0x3004, 0x8001)]))
      0x1004 0x220 [] [(0x3004, 0), (0x3005, 0x80)] = true := by
  decide

theorem test_T10_cbitbBase :
    ends (step (machine 0x1000 0x220 [(0, 0x40)] [(0x40, 0x7F), (0x1000, 0x440F)]))
      0x1002 0x200 [] [] = true := by
  decide

theorem test_B1_beqDisp9 :
    ends (step (machine 0x1000 0x240 [] [(0x1000, 0x4E1E)]))
      0x10FE 0x240 [] [] = true := by
  decide

theorem test_B2_beqDisp9 :
    ends (step (machine 0x1000 0x200 [] [(0x1000, 0x4E1E)]))
      0x1002 0x200 [] [] = true := by
  decide

theorem test_B3_brDisp9 :
    ends (step (machine 0x1000 0x200 [] [(0x1000, 0x51C0)]))
      0xF00 0x200 [] [] = true := by
  decide

theorem test_B4_brDisp9 :
    ends (step (machine 0 0x200 [] [(0, 0x5FDE)]))
      0x1FFFFE 0x200 [] [] = true := by
  decide

theorem test_B5_bgeDisp9 :
    ends (step (machine 0x1000 0x200 [] [(0x1000, 0x41A2)]))
      0x1002 0x200 [] [] = true := by
  decide

theorem test_B6_bhiDisp9 :
    ends (step (machine 0x1000 0x204 [] [(0x1000, 0x4084)]))
      0x1004 0x204 [] [] = true := by
  decide

theorem test_B7_brDisp17 :
    ends (step (machine 0 0x200 [] [(0, 0x15DE), (2, 0xFFFE)]))
      0x1FFFE 0x200 [] [] = true := by
  decide

theorem test_B8_brDisp17 :
    ends (step (machine 0x1FFFE 0x200 [] [(0x1FFFE, 0x15CE), (0x20000, 0xFFFE)]))
      0xFFFC 0x200 [] [] = true := by
  decide

theorem test_B10_brDisp21 :
    ends (step (machine 0 0x200 [] [(0, 0x75DE), (2, 0xFFFF)]))
      0x1FFFFE 0x200 [] [] = true := by
  decide

theorem test_B11_brDisp21 :
    ends (step (machine 0x100002 0x200 [] [(0x100002, 0x75D6), (0x100004, 0xFFFE)]))
      0x180000 0x200 [] [] = true := by
  decide

theorem test_B12_bccDisp17 :
    ends (step (machine 0x1000 0x201 [] [(0x1000, 0x146E), (0x1002, 0x100)]))
      0x1004 0x201 [] [] = true := by
  decide

theorem test_B14_balSmall :
    ends (step (machine 0x2000 0x200 [] [(0x2000, 0x35DE), (0x2002, 0xFFFC)]))
      0x1FFC 0x200 [(14, 0x1002)] [] = true := by
  decide

theorem test_B15_balSmall :
    ends (step (machine 0x1FFFC 0x200 [(5, 0xFFFF)] [(0x1FFFC, 0x34AE), (0x1FFFE, 0x100)]))
      0xFC 0x200 [(5, 0)] [] = true := by
  decide

theorem test_B16_balLarge :
    ends (step (machine 0x1FFFFC 0x200 [(1, 0xFFFF)] [(0x1FFFFC, 0x7600), (0x1FFFFE, 8)]))
      4 0x200 [(0, 0), (1, 0)] [] = true := by
  decide

theorem test_B17_balLarge :
    ends (step (machine 0x180000 0x200 [] [(0x180000, 0x77A0), (0x180002, 1)]))
      0x80000 0x200 [(13, 2), (14, 0xC)] [] = true := by
  decide

theorem test_J1_jumpSmall :
    ends (step (machine 0x1000 0x200 [(3, 0xFFFF)] [(0x1000, 0x55C7)]))
      0x1FFFE 0x200 [] [] = true := by
  decide

theorem test_J2_jeqSmall :
    ends (step (machine 0x1000 0x200 [(3, 0x800)] [(0x1000, 0x5407)]))
      0x1002 0x200 [] [] = true := by
  decide

theorem test_J3_jumpLarge :
    ends (step (machine 0x1000 0x200 [(3, 0x8001), (4, 0xFFF5)] [(0x1000, 0x17C7)]))
      0xB0002 0x200 [] [] = true := by
  decide

theorem test_J4_jalSmall :
    ends (step (machine 0x1FFFE 0x200 [(3, 0x800)] [(0x1FFFE, 0x75C7)]))
      0x1000 0x200 [(14, 0)] [] = true := by
  decide

theorem test_J5_jalSmall :
    ends (step (machine 0x1000 0x200 [(3, 0x800)] [(0x1000, 0x7467)]))
      0x1000 0x200 [(3, 0x801)] [] = true := by
  decide

theorem test_J6_jalLarge :
    ends (step (machine 0x12345E 0x200 [(3, 0x10), (4, 0xF), (14, 0xFFFF)] [(0x12345E, 0x17A6)]))
      0x1E0020 0x200 [(13, 0x1A30), (14, 9)] [] = true := by
  decide

theorem test_J7_jalLarge :
    ends (step (machine 0x100000 0x200 [(3, 0x10), (4, 1)] [(0x100000, 0x1666)]))
      0x20020 0x200 [(3, 1), (4, 8)] [] = true := by
  decide

theorem test_J8_jgeLarge :
    ends (step (machine 0x1000 0x280 [(0, 0x8000), (1, 0)] [(0x1000, 0x17A1)]))
      0x10000 0x280 [] [] = true := by
  decide

theorem test_ST1_push :
    ends (step (machine 0x1000 0x200 [(0, 0xBEEF), (15, 0)] [(0x1000, 0x6C00)]))
      0x1002 0x200 [(15, 0xFFFE)] [(0xFFFE, 0xEF), (0xFFFF, 0xBE)] = true := by
  decide

theorem test_ST2_push :
    ends (step (machine 0x1000 0x200 [(7, 0x1111), (8, 0x2222), (9, 0x3333), (10, 0x4444), (15, 0x2001)]
        [(0x1000, 0x6C6E)]))
      0x1002 0x200 [(15, 0x1FF9)]
        [(0x1FF9, 0x11), (0x1FFA, 0x11), (0x1FFB, 0x22), (0x1FFC, 0x22), (0x1FFD, 0x33), (0x1FFE, 0x33),
        (0x1FFF, 0x44), (0x2000, 0x44)] = true := by
  decide +kernel

theorem test_ST3_pop :
    ends (step (machine 0x1000 0x200 [(15, 0xFFC)] [(0xFFC, 0x1234), (0xFFE, 5), (0x1000, 0x6CBA)]))
      0x1002 0x200 [(13, 0x1234), (14, 5), (15, 0x1000)] [] = true := by
  decide

theorem test_ST4_pop :
    ends (step (machine 0x1000 0x200 [(15, 0xFFFE)] [(0x1000, 0x6C86), (0xFFFE, 0xCAFE)]))
      0x1002 0x200 [(3, 0xCAFE), (15, 0)] [] = true := by
  decide

theorem test_ST5_popretSmall :
    ends (step (machine 0x1000 0x200 [(13, 0xF), (14, 0x1234), (15, 0x3000)] [(0x1000, 0x6D00), (0x3000, 0x5555)]))
      0x2468 0x200 [(0, 0x5555), (15, 0x3002)] [] = true := by
  decide

theorem test_ST6_popretLarge :
    ends (step (machine 0x1000 0x200 [(13, 0x1234), (14, 0xFFFF), (15, 0x3000)] [(0x1000, 0x6D80), (0x3000, 0x5555)]))
      0x1E2468 0x200 [(0, 0x5555), (15, 0x3002)] [] = true := by
  decide

theorem test_ST7_popretSmall :
    ends (step (machine 0x1000 0x200 [(15, 0xFFC)] [(0xFFC, 0x1234), (0xFFE, 0x100), (0x1000, 0x6D3A)]))
      0x200 0x200 [(13, 0x1234), (14, 0x100), (15, 0x1000)] [] = true := by
  decide

theorem test_L1_loadbDisp5 :
    ends (step (machine 0x1000 0x200 [(5, 0xFFFF), (7, 0xAAAA)] [(0x1000, 0x8EEB), (0x1000E, 0x5A)]))
      0x1002 0x200 [(7, 0xAA5A)] [] = true := by
  decide

theorem test_L2_loadbDisp5 :
    ends (step (machine 0x1000 0x200 [(5, 0xFFFF), (7, 0xAAAA)] [(0x1000, 0x9EEA), (0x1001D, 0x77)]))
      0x1002 0x200 [(7, 0xAA77)] [] = true := by
  decide

theorem test_L3_loadwDisp5 :
    ends (step (machine 0x1000 0x200 [(15, 0x2001)] [(0x1000, 0xA01E), (0x2001, 0x1234)]))
      0x1002 0x200 [(0, 0x1234)] [] = true := by
  decide

theorem test_L4_loadwDisp18 :
    ends (step (machine 0x1000 0x200 [(4, 0)] [(0x1000, 0xB6E9), (0x1002, 0xFFFE), (0x3FFFE, 0xBEEF)]))
      0x1004 0x200 [(7, 0xBEEF)] [] = true := by
  decide

theorem test_L5_loadwDisp18 :
    ends (step (machine 0x1000 0x200 [(4, 0xFFFF)] [(0x1000, 0xB4E9), (0x1002, 0), (0x2FFFF, 0xABCD)]))
      0x1004 0x200 [(7, 0xABCD)] [] = true := by
  decide

theorem test_L7_loadwFar :
    ends (step (machine 0x1000 0x200 [(4, 0), (5, 0xFFE0)] [(0x1000, 0xBEE9), (0x1002, 0xFFFE), (0x1FFFFE, 0x1357)]))
      0x1004 0x200 [(7, 0x1357)] [] = true := by
  decide

theorem test_L8_loadwFar :
    ends (step (machine 0x1000 0x200 [(4, 0xFFFF), (5, 0x1F)]
        [(0x1000, 0xBAE9), (0x1002, 0xFFFF), (0x1FFFE, 0x5544)]))
      0x1004 0x200 [(7, 0x5544)] [] = true := by
  decide

theorem test_L9_loadbAbs :
    ends (step (machine 0x1000 0x200 [(2, 0x1200)] [(0x1000, 0x9E5F), (0x1002, 0xFFFF), (0x3FFFF, 0x99)]))
      0x1004 0x200 [(2, 0x1299)] [] = true := by
  decide

theorem test_L11_storbDisp5 :
    ends (step (machine 0x1000 0x200 [(0, 0x40), (7, 0x1234)] [(0x41, 0xFF), (0x1000, 0xC0E0)]))
      0x1002 0x200 [] [(0x40, 0x34), (0x41, 0xFF)] = true := by
  decide

theorem test_L12_storwDisp5 :
    ends (step (machine 0x1000 0x200 [(0, 0x40), (7, 0x1234)] [(0x1000, 0xE0E1)]))
      0x1002 0x200 [] [(0x41, 0x34), (0x42, 0x12)] = true := by
  decide

theorem test_L13_storwAbs :
    ends (step (machine 0x1000 0x200 [(7, 0x1234)] [(0x1000, 0xFEFF), (0x1002, 0xFFFF)]))
      0x1004 0x200 [] [(0x3FFFF, 0x34), (0x40000, 0x12)] = true := by
  decide

theorem test_L14_storwDisp5 :
    ends (step (machine 0x1000 0x200 [(15, 0x3000)] [(0x1000, 0xE1FE)]))
      0x1002 0x200 [] [(0x3000, 0), (0x3001, 0x30)] = true := by
  decide

theorem test_L15_storbImmBase :
    ends (step (machine 0x1000 0x200 [(9, 0x100)] [(0x101, 0xFF), (0x1000, 0x45EF)]))
      0x1002 0x200 [] [(0x100, 7), (0x101, 0xFF)] = true := by
  decide

theorem test_L16_storwImmDisp16 :
    ends (step (machine 0x1000 0x200 [(1, 0xFFFF)] [(0x1000, 0x24EF), (0x1002, 0xFFFF), (0x1FFFE, 0xAAAA)]))
      0x1004 0x200 [] [(0x1FFFE, 7), (0x1FFFF, 0)] = true := by
  decide

theorem test_L17_storwImmAbs :
    ends (step (machine 0x1000 0x200 [] [(0x1000, 0x25C0), (0x1002, 2), (0x20002, 0xFFFF)]))
      0x1004 0x200 [] [(0x20002, 0), (0x20003, 0)] = true := by
  decide

theorem test_L18_storwImmBase :
    ends (step (machine 0x1000 0x200 [(9, 0x100)] [(0x1000, 0x65FF)]))
      0x1002 0x200 [] [(0x100, 0xF), (0x101, 0)] = true := by
  decide

theorem test_L19_loadm :
    ends (step (machine 0x1000 0x200 [(0, 0xFFFC)] [(0, 3), (2, 4), (0x1000, 0x7E64), (0xFFFC, 1), (0xFFFE, 2)]))
      0x1002 0x200 [(2, 1), (3, 2), (4, 3), (5, 4), (0, 4)] [] = true := by
  decide +kernel

theorem test_L20_loadm :
    ends (step (machine 0x1000 0x200 [(0, 0x3001)] [(0x1000, 0x7E04), (0x3001, 0xABCD)]))
      0x1002 0x200 [(2, 0xABCD), (0, 0x3003)] [] = true := by
  decide

theorem test_L21_storm :
    ends (step (machine 0x1000 0x200 [(1, 0x4000), (2, 0x1111), (3, 0x2222), (4, 0x3333), (5, 0x4444)]
        [(0x1000, 0x7EE4)]))
      0x1002 0x200 [(1, 0x4008)]
        [(0x4000, 0x11), (0x4001, 0x11), (0x4002, 0x22), (0x4003, 0x22), (0x4004, 0x33), (0x4005, 0x33),
        (0x4006, 0x44), (0x4007, 0x44)] = true := by
  decide +kernel

theorem test_L22_storm :
    ends (step (machine 0x1000 0x200 [(1, 0xFFFE), (2, 0xAAAA), (3, 0xBBBB)] [(0x1000, 0x7EA4)]))
      0x1002 0x200 [(1, 2)] [(0xFFFE, 0xAA), (0xFFFF, 0xAA), (0, 0xBB), (1, 0xBB)] = true := by
  decide

theorem test_S1_seq :
    ends (step (machine 0x1000 0x240 [(5, 0xFFFF)] [(0x1000, 0x6E0A)]))
      0x1002 0x240 [(5, 1)] [] = true := by
  decide

theorem test_S10_sfc :
    ends (step (machine 0x1000 0x220 [(5, 0xFFFF)] [(0x1000, 0x6F2A)]))
      0x1002 0x220 [(5, 0)] [] = true := by
  decide

theorem test_S2_sne :
    ends (step (machine 0x1000 0x240 [(5, 0xFFFF)] [(0x1000, 0x6E2A)]))
      0x1002 0x240 [(5, 0)] [] = true := by
  decide

theorem test_S11_slo :
    ends (step (machine 0x1000 0x200 [(5, 0xFFFF)] [(0x1000, 0x6F4A)]))
      0x1002 0x200 [(5, 1)] [] = true := by
  decide

theorem test_S3_scs :
    ends (step (machine 0x1000 0x201 [(5, 0xFFFF)] [(0x1000, 0x6E4A)]))
      0x1002 0x201 [(5, 1)] [] = true := by
  decide

theorem test_S12_slo :
    ends (step (machine 0x1000 0x240 [(5, 0xFFFF)] [(0x1000, 0x6F4A)]))
      0x1002 0x240 [(5, 0)] [] = true := by
  decide

theorem test_S4_scc :
    ends (step (machine 0x1000 0x201 [(5, 0xFFFF)] [(0x1000, 0x6E6A)]))
      0x1002 0x201 [(5, 0)] [] = true := by
  decide

theorem test_S13_shs :
    ends (step (machine 0x1000 0x200 [(5, 0xFFFF)] [(0x1000, 0x6F6A)]))
      0x1002 0x200 [(5, 0)] [] = true := by
  decide

theorem test_S5_shi :
    ends (step (machine 0x1000 0x204 [(5, 0xFFFF)] [(0x1000, 0x6E8A)]))
      0x1002 0x204 [(5, 1)] [] = true := by
  decide

theorem test_S14_shs :
    ends (step (machine 0x1000 0x240 [(5, 0xFFFF)] [(0x1000, 0x6F6A)]))
      0x1002 0x240 [(5, 1)] [] = true := by
  decide

theorem test_S6_sls :
    ends (step (machine 0x1000 0x204 [(5, 0xFFFF)] [(0x1000, 0x6EAA)]))
      0x1002 0x204 [(5, 0)] [] = true := by
  decide

theorem test_S15_slt :
    ends (step (machine 0x1000 0x200 [(5, 0xFFFF)] [(0x1000, 0x6F8A)]))
      0x1002 0x200 [(5, 1)] [] = true := by
  decide

theorem test_S7_sgt :
    ends (step (machine 0x1000 0x280 [(5, 0xFFFF)] [(0x1000, 0x6ECA)]))
      0x1002 0x280 [(5, 1)] [] = true := by
  decide

theorem test_S16_slt :
    ends (step (machine 0x1000 0x280 [(5, 0xFFFF)] [(0x1000, 0x6F8A)]))
      0x1002 0x280 [(5, 0)] [] = true := by
  decide

theorem test_S8_sle :
    ends (step (machine 0x1000 0x280 [(5, 0xFFFF)] [(0x1000, 0x6EEA)]))
      0x1002 0x280 [(5, 0)] [] = true := by
  decide

theorem test_S17_sge :
    ends (step (machine 0x1000 0x200 [(5, 0xFFFF)] [(0x1000, 0x6FAA)]))
      0x1002 0x200 [(5, 0)] [] = true := by
  decide

theorem test_S9_sfs :
    ends (step (machine 0x1000 0x220 [(5, 0xFFFF)] [(0x1000, 0x6F0A)]))
      0x1002 0x220 [(5, 1)] [] = true := by
  decide

theorem test_S18_sge :
    ends (step (machine 0x1000 0x2C0 [(5, 0xFFFF)] [(0x1000, 0x6FAA)]))
      0x1002 0x2C0 [(5, 1)] [] = true := by
  decide

theorem test_X1_exception :
    (let o := step { machine 0x12345E 0xAE5 [] [(0x12345E, 0x7BEC), (0x1F0018, 0x8004), (0x1F001A, 0xFFF7)] with
      isp := 0x1000, intbase := 0x1F0000, cfg := 0x100 }
     ends o 0xF0008 0xAE5 []
        [(0xFFC, 0x2F), (0xFFD, 0x1A), (0xFFE, 0xE5),
        (0xFFF, 0x9A)] && endsSpecials o [0xFFC, 0x1F0000, 0x100, 0, 0, 0]) = true := by
  decide

theorem test_X2_exception :
    (let o := step { machine 0x2000 0xA02 [] [(0x10E, 0x4000), (0x2000, 0x7BEE)] with
      isp := 0x1000, intbase := 0x1F0100 }
     ends o 0x8000 0xA00 []
        [(0xFFC, 0), (0xFFD, 0x10), (0xFFE, 2),
        (0xFFF, 0xE)] && endsSpecials o [0xFFC, 0x1F0100, 0, 0, 0, 0]) = true := by
  decide

theorem test_X4_3_exception :
    (let o := step { machine 0x2000 0x200 [(5, 0xFFFF)] [(0x114, 0x500), (0x2000, 0x7BF2)] with
      isp := 0x1000, intbase := 0x100 }
     ends o 0xA00 0x200 []
        [(0xFFC, 0), (0xFFD, 0x10), (0xFFE, 0), (0xFFF, 2)] && endsSpecials o [0xFFC, 0x100, 0, 0, 0, 0]) = true := by
  decide

theorem test_X4_4_exception :
    (let o := step { machine 0x2000 0x200 [(5, 0xFFFF)] [(0x114, 0x500), (0x2000, 0x6FCA)] with
      isp := 0x1000, intbase := 0x100 }
     ends o 0xA00 0x200 []
        [(0xFFC, 0), (0xFFD, 0x10), (0xFFE, 0), (0xFFF, 2)] && endsSpecials o [0xFFC, 0x100, 0, 0, 0, 0]) = true := by
  decide

theorem test_X4_19_exception :
    (let o := step { machine 0x2000 0x200 [(5, 0xFFFF)] [(0x114, 0x500), (0x2000, 0x55E1)] with
      isp := 0x1000, intbase := 0x100 }
     ends o 0xA00 0x200 []
        [(0xFFC, 0), (0xFFD, 0x10), (0xFFE, 0), (0xFFF, 2)] && endsSpecials o [0xFFC, 0x100, 0, 0, 0, 0]) = true := by
  decide

theorem test_X7_exception :
    (let o := step { machine 0x2000 0x200 [] [(0x10A, 0x600), (0x2000, 0x7BEA)] with
      isp := 2, intbase := 0x100 }
     ends o 0xC00 0x200 []
        [(0xFFFE, 0), (0xFFFF, 0x10), (0, 0), (1, 2)] && endsSpecials o [0xFFFE, 0x100, 0, 0, 0, 0]) = true := by
  decide

theorem test_X9_exception :
    (let o := step { machine 0x2000 0x202 [] [(0x112, 0xB00), (0x114, 0x500), (0x2000, 0x6FCA)] with
      isp := 0x1000, intbase := 0x100 }
     ends o 0xA00 0x200 []
        [(0xFFC, 0), (0xFFD, 0x10), (0xFFE, 2), (0xFFF, 6)] && endsSpecials o [0xFFC, 0x100, 0, 0, 0, 0]) = true := by
  decide

theorem test_X10_exception :
    (let o := step { machine 0x2000 0x200 [] [(0x20, 0x8000), (0x22, 0xFFF8), (0x2000, 0x7BF0)] with
      isp := 0x1000, intbase := 0x100, dcr := 0x400 }
     ends o 0x110000 0x200 []
        [(0xFFC, 0), (0xFFD, 0x10), (0xFFE, 0),
        (0xFFF, 2)] && endsSpecials o [0xFFC, 0x100, 0, 0x400, 0, 0]) = true := by
  decide

theorem test_RX1_retx :
    (let o := step { machine 0x2000 0x200 [] [(0xFFC, 0x91A2), (0xFFE, 0xFAE5), (0x2000, 0x79FE)] with
      isp := 0xFFC, intbase := 0x100 }
     ends o 0x1F2344 0xAE5 [] [] && endsSpecials o [0x1000, 0x100, 0, 0, 0, 0]) = true := by
  decide

theorem test_RX2_retx :
    (let o := step { machine 0x2000 0x200 [] [(0x2000, 0x79FE), (0xFFFC, 0x800), (0xFFFE, 0x200)] with
      isp := 0xFFFC, intbase := 0x100 }
     ends o 0x1000 0x200 [] [] && endsSpecials o [0, 0x100, 0, 0, 0, 0]) = true := by
  decide

theorem test_RX3_retx :
    (let o := step { machine 0x2000 0x200 [] [(0xFFC, 0x800), (0xFFE, 0xFFF), (0x2000, 0x79FE)] with
      isp := 0xFFC, intbase := 0x100 }
     ends o 0x1000 0xEE7 [] [] && endsSpecials o [0x1000, 0x100, 0, 0, 0, 0]) = true := by
  decide

theorem test_I1_boundary :
    (let o := step { machine 0x2000 0xAE5 [] [(0x102, 0x700), (0x2000, 0x200)] with
      isp := 0x1000, intbase := 0x100, pinsAhead := [⟨false, false, ⟨true, false, false⟩, .quiet, 0, false⟩] }
     ends o 0xE00 0x2E5 []
        [(0xFFC, 0), (0xFFD, 0x10), (0xFFE, 0xE5),
        (0xFFF, 0xA)] && endsSpecials o [0xFFC, 0x100, 0, 0, 0, 0]) = true := by
  decide

theorem test_I2_boundary :
    (let o := step { machine 0x2000 0 [] [(0x102, 0x700), (0x2000, 0x200)] with
      isp := 0x1000, intbase := 0x100, pinsAhead := [⟨false, false, ⟨true, false, false⟩, .quiet, 0, false⟩] }
     ends o 0xE00 0 []
        [(0xFFC, 0), (0xFFD, 0x10), (0xFFE, 0), (0xFFF, 0)] && endsSpecials o [0xFFC, 0x100, 0, 0, 0, 0]) = true := by
  decide

theorem test_I3_boundary :
    (let o := step { machine 0x2000 0xA00 [] [(0x1FE, 0x900), (0x2000, 0x200)] with
      isp := 0x1000, intbase := 0x100, pinsAhead := [⟨false, false, ⟨false, true, false⟩, .quiet, 127, false⟩] }
     ends o 0x1200 0x200 []
        [(0xFFC, 0), (0xFFD, 0x10), (0xFFE, 0),
        (0xFFF, 0xA)] && endsSpecials o [0xFFC, 0x100, 0, 0, 0, 0]) = true := by
  decide

theorem test_I4_boundary :
    (let o := step { machine 0x2000 0x200 [] [(0x2000, 0x200)] with
      isp := 0x1000, intbase := 0x100, pinsAhead := [⟨false, false, ⟨false, true, false⟩, .quiet, 0, false⟩] }
     ends o 0x2002 0x200 [] [] && endsSpecials o [0x1000, 0x100, 0, 0, 0, 0]) = true := by
  decide

theorem test_I5_boundary :
    (let o := step { machine 0x2000 0x800 [] [(0x2000, 0x200)] with
      isp := 0x1000, intbase := 0x100, pinsAhead := [⟨false, false, ⟨false, true, false⟩, .quiet, 0, false⟩] }
     ends o 0x2002 0x800 [] [] && endsSpecials o [0x1000, 0x100, 0, 0, 0, 0]) = true := by
  decide

theorem test_I6_boundary :
    (let o := step { machine 0x2000 0 [] [(0x11E, 0xA00), (0x2000, 0x200)] with
      isp := 0x1000, intbase := 0x100, pinsAhead := [⟨false, false, ⟨false, false, true⟩, .quiet, 0, false⟩] }
     ends o 0x1400 0 []
        [(0xFFC, 0), (0xFFD, 0x10), (0xFFE, 0), (0xFFF, 0)] && endsSpecials o [0xFFC, 0x100, 0, 0, 0, 0]) = true := by
  decide

theorem test_I7_boundary :
    (let o := step { machine 0x2000 0xA00 [] [(0x102, 0x700), (0x2000, 0x200)] with
      isp := 0x1000, intbase := 0x100, pinsAhead := [⟨false, false, ⟨true, true, true⟩, .quiet, 0, false⟩] }
     ends o 0xE00 0x200 []
        [(0xFFC, 0), (0xFFD, 0x10), (0xFFE, 0),
        (0xFFF, 0xA)] && endsSpecials o [0xFFC, 0x100, 0, 0, 0, 0]) = true := by
  decide

theorem test_I8_boundary :
    (let o := step { machine 0x2000 0xE02 [] [(0x120, 0x900), (0x2000, 0x200)] with
      isp := 0x1000, intbase := 0x100, pinsAhead := [⟨false, false, ⟨false, true, false⟩, .quiet, 16, false⟩] }
     ends o 0x1200 0x200 []
        [(0xFFC, 0), (0xFFD, 0x10), (0xFFE, 2),
        (0xFFF, 0xE)] && endsSpecials o [0xFFC, 0x100, 0, 0, 0, 0]) = true := by
  decide

theorem test_I9_boundary :
    (let o := step { machine 0x2000 0xE02 [] [(0x112, 0xB00), (0x2000, 0x200)] with
      isp := 0x1000, intbase := 0x100 }
     ends o 0x1600 0xA00 []
        [(0xFFC, 0), (0xFFD, 0x10), (0xFFE, 2),
        (0xFFF, 0xA)] && endsSpecials o [0xFFC, 0x100, 0, 0, 0, 0]) = true := by
  decide

theorem test_I10_boundary :
    (let o := step { machine 0x2000 0xA02 [(0, 3), (1, 5)] [(0x120, 0x900), (0x2000, 0x6603)] with
      isp := 0x1000, intbase := 0x100, pinsAhead := [⟨false, false, .quiet, ⟨false, true, false⟩, 16, false⟩] }
     ends o 0x1200 0x200 []
        [(0xFFC, 0), (0xFFD, 0x10), (0xFFE, 2),
        (0xFFF, 0xA)] && endsSpecials o [0xFFC, 0x100, 0, 0, 0, 0]) = true := by
  decide

theorem test_DB1_debug :
    (let o := step { machine 0x2000 0x200 [] [(0x11C, 0xC00), (0x2000, 0x200)] with
      isp := 0x1000, intbase := 0x100, dcr := 0x90, car := 0x2000 }
     ends o 0x2002 0x200 [] [] && endsSpecials o [0x1000, 0x100, 0, 0x10, 1, 0x2000]) = true := by
  decide

theorem test_DB2_debug :
    (let o := step { machine 0x2000 0x200 [(0, 0x3FFF), (7, 0x1234)] [(0x2000, 0xE0E0)] with
      isp := 0x1000, intbase := 0x100, dcr := 0xA1, car := 0x4000 }
     ends o 0x2002 0x200 []
        [(0x3FFF, 0x34), (0x4000, 0x12)] && endsSpecials o [0x1000, 0x100, 0, 0x21, 2, 0x4000]) = true := by
  decide

theorem test_DB3_debug :
    (let o := step { machine 0x2000 0x200 [(0, 0x4001), (7, 0x1234)] [(0x2000, 0xE0E0)] with
      isp := 0x1000, intbase := 0x100, dcr := 0xA1, car := 0x4000 }
     ends o 0x2002 0x200 []
        [(0x4001, 0x34), (0x4002, 0x12)] && endsSpecials o [0x1000, 0x100, 0, 0xA1, 0, 0x4000]) = true := by
  decide

theorem test_DB4_debug :
    (let o := step { machine 0x2000 0x200 [(0, 0x3FFF), (7, 0x1234)] [(0x2000, 0xE0E0)] with
      isp := 0x1000, intbase := 0x100, dcr := 0xB1, car := 0x4000 }
     ends o 0x2002 0x200 []
        [(0x3FFF, 0x34), (0x4000, 0x12)] && endsSpecials o [0x1000, 0x100, 0, 0xB1, 0, 0x4000]) = true := by
  decide

theorem test_DB6_debug :
    (let o := step { machine 0x2000 0x200 [] [(0x11C, 0xC00), (0x2000, 0x200)] with
      isp := 0x1000, intbase := 0x100, dcr := 0x100, pinsAhead := [⟨false, true, .quiet, .quiet, 0, false⟩] }
     ends o 0x1800 0x200 []
        [(0xFFC, 0), (0xFFD, 0x10), (0xFFE, 0), (0xFFF, 2)] && endsSpecials o [0xFFC, 0x100, 0, 0, 8, 0]) = true := by
  decide

theorem test_W1_eiwait :
    (let o := step { machine 0x2000 0x800 [] [(0x2000, 0x7FE6)] with
      isp := 0x1000, intbase := 0x100 }
     ends o 0x2002 0xA00 [] [] && endsSpecials o [0x1000, 0x100, 0, 0, 0, 0]) = true := by
  decide

theorem test_W3_wait :
    (let o := step { machine 0x2000 0xA02 [] [(0x2000, 0x7FFE)] with
      isp := 0x1000, intbase := 0x100 }
     ends o 0x2002 0xE02 [] [] && endsSpecials o [0x1000, 0x100, 0, 0, 0, 0]) = true := by
  decide

theorem test_P2_lpr :
    (let o := step (machine 0x1000 0x200 [(1, 0xFFFF)] [(0x1000, 0x7062)])
     ends o 0x1002 0x200 [] [] && endsSpecials o [0, 0xFFFE, 0, 0, 0, 0]) = true := by
  decide

theorem test_P3_lpr :
    (let o := step (machine 0x1000 0x200 [(1, 0xFFFF)] [(0x1000, 0x7082)])
     ends o 0x1002 0x200 [] [] && endsSpecials o [0, 0x1F0000, 0, 0, 0, 0]) = true := by
  decide

theorem test_P12_spr :
    (let o := step { machine 0x1000 0x200 [(1, 0xFFFF)] [(0x1000, 0x7364)] with
      isp := 0xFFE }
     ends o 0x1002 0x200 [(2, 0xFFE)] [] && endsSpecials o [0xFFE, 0, 0, 0, 0, 0]) = true := by
  decide

theorem test_P13_spr :
    (let o := step { machine 0x1000 0x200 [(1, 0xFFFF)] [(0x1000, 0x7284)] with
      intbase := 0x1F0000 }
     ends o 0x1002 0x200 [(2, 0x1F)] [] && endsSpecials o [0, 0x1F0000, 0, 0, 0, 0]) = true := by
  decide

theorem test_Z1_reset_saves_pc_and_psr :
    answers (step { machine 0x12345E 0xAE5 [(0, 0x1111), (1, 0x2222)] [] with
      isp := 0xFFC, cfg := 0x100, dcr := 0xBDF3, dsr := 0xF
      pinsAhead := [⟨true, false, .quiet, .quiet, 0, false⟩] }) (fun t =>
        (t.reg 0).toNat == 0x1A2F && (t.reg 1).toNat == 0x9AE5 && t.pc == 0 && t.opState == .reset) = true := by
  decide

/-! ## Witnesses: the premises of the statements can be met

A name says which statement, and which clause of it. -/

/-- ADDW R0, R1 at 0x1000. -/
def adding : State := machine 0x1000 0x200 [(0, 7), (1, 9)] [(0x1000, 0x6021)]

/-- MULW R0, R1 at 0x1000 with INT arriving while it executes, E and I set. -/
def multiplying : State :=
  { machine 0x1000 0xA00 [(0, 7), (1, 9)] [(0x1000, 0x6621)] with
    isp := 0x1000, pins := ⟨false, false, .quiet, ⟨false, true, false⟩, 16, false⟩ }

/-- NOP at 0x1000 in the wait state or not, with the given PSR and input levels of the coming step. -/
def withPins (o : OpState) (psr : Nat) (p : Pins) : State :=
  { machine 0x1000 psr [] [(0x1000, 0x0200)] with opState := o, isp := 0x1000, pinsAhead := [p] }

/-- Requests at the boundary. -/
def asking (nmi int ise : Bool) : Pins := ⟨false, false, ⟨nmi, int, ise⟩, .quiet, 16, false⟩

/-- SP = 2, so that a stack run wraps from 0xFFFE to 0. -/
def lowStack : State := machine 0x1000 0x200 [(15, 2)] []

/-- A device from 0xF000 to 0xF0FF, ROM from 0xF100 to 0xF1FF, RAM elsewhere. -/
def withMap : State :=
  { State.reset with platform := ⟨[⟨0xF000, 0x100, .device⟩, ⟨0xF100, 0x100, .rom⟩], false, false⟩ }

theorem witness_DecodeEncode_wellFormed :
    Instr.WellFormed (.addbReg 15 15) ∧ Instr.WellFormed (.movwImm5 0b10000#5 15) ∧
    Instr.WellFormed (.addubImm5 0 1) ∧ Instr.WellFormed (.loadwDisp5 30 15 15) ∧
    Instr.WellFormed (.loadwFar 0x3FFFF#18 14 15) ∧ Instr.WellFormed (.storwFar 0 0x3FFFF#18 14) ∧
    Instr.WellFormed (.brDisp9 0x1FE#9) ∧ Instr.WellFormed (.brDisp21 0x1FFFFE#21) ∧
    Instr.WellFormed (.movd 0x1FFFFF#21 15) := by decide

theorem witness_EncodeDecode_two_bytes : decode 0x6021#16 0xFFFF#16 = .ok (.addwReg 0 1) := by decide

theorem witness_EncodeDecode_four_bytes : decode 0x3851#16 0xFFFF#16 = .ok (.movwImm16 0xFFFF#16 2) := by decide

theorem witness_LengthFromFirstWord_two_bytes : encode (.addwReg 0 1) = 0x6021#16 :: [] := by decide

theorem witness_LengthFromFirstWord_four_bytes :
    encode (.movwImm16 0xFFFF#16 2) = 0x3851#16 :: [0xFFFF#16] := by decide

theorem witness_UndefinedInstruction_groups :
    ((15#4 = 15 ∧ 14#4 ≠ 15 ∧ 3#4 = 3) ∧ (15#4 = 15 ∧ (8#4).getLsbD 3 = true ∧ 2#4 = 2) ∧
      (15#4 = 15 ∧ (10#4 = 10 ∨ 10#4 = 11)) ∧ (14#4 = 14 ∧ (13#4).getLsbD 1 = false)) := by decide

/-- The undefined word 0x7C00 at 0x1000. -/
def undefinedNext : State := { machine 0x1000 0x200 [] [(0x1000, 0x7C00)] with isp := 0x1000 }

theorem witness_UndefinedInstruction_state :
    undefinedNext.quietStep ∧ undefinedNext.storedWord undefinedNext.pc ∧
    undefinedNext.marked undefinedNext.pc = false ∧ undefinedNext.marked (undefinedNext.pc + 1) = false ∧
    (0x7C00#16).toNat = undefinedNext.wordAt undefinedNext.pc := by
  refine ⟨⟨by decide, ⟨by decide, by decide⟩, by decide⟩, ⟨.inl (by decide), .inl (by decide)⟩, ?_⟩
  decide

theorem witness_UndefinedInstruction_word : ∀ w2, ∃ e, decode 0x7C00#16 w2 = .error e :=
  fun _ => ⟨_, rfl⟩

theorem witness_Step_two_bytes :
    Instr.WellFormed (.addwReg 0 1) ∧ adding.quietStep ∧ adding.holdsAtPc (.addwReg 0 1) := by
  refine ⟨by decide, ⟨by decide, ⟨by decide, by decide⟩, by decide⟩, ?_⟩
  unfold State.holdsAtPc State.isStored
  decide

/-- MOVW $0xFFF1, R2 whose second word wraps to address 0. -/
def wrapping : State := machine 0x1FFFFE 0x200 [] [(0x1FFFFE, 0x3851), (0, 0xFFF1)]

theorem witness_Step_four_bytes :
    Instr.WellFormed (.movwImm16 0xFFF1#16 2) ∧ wrapping.quietStep ∧
    wrapping.holdsAtPc (.movwImm16 0xFFF1#16 2) := by
  refine ⟨by decide, ⟨by decide, ⟨by decide, by decide⟩, by decide⟩, ?_⟩
  unfold State.holdsAtPc State.isStored
  decide

theorem witness_InstructionStart_hit :
    (let s := { adding with dcr := 0x90, car := 0x1000 }
     s.dcr.getLsbD dcrDen = true ∧ s.dcr.getLsbD dcrPc = true ∧ s.pc = s.car ∧
       (s.platform.pcMatchUsesCbe = true → s.dcr.getLsbD 0 = true)) := by decide

theorem witness_InstructionStart_hit_with_cbe :
    (let s := { adding with dcr := 0x91, car := 0x1000, platform := ⟨[], false, true⟩ }
     s.dcr.getLsbD dcrDen = true ∧ s.dcr.getLsbD dcrPc = true ∧ s.pc = s.car ∧
       (s.platform.pcMatchUsesCbe = true → s.dcr.getLsbD 0 = true)) := by decide

theorem witness_InstructionStart_no_hit :
    (let s := { adding with dcr := 0x90, car := 0x1002 }
     ¬ (s.dcr.getLsbD dcrDen = true ∧ s.dcr.getLsbD dcrPc = true ∧ s.pc = s.car)) := by decide

/-- The premises of BoundaryPriority and of WaitState at a state. -/
def boundaryPremise (o : OpState) (s : State) : Prop := s.opState = o ∧ s.noReset

theorem witness_Boundary_debug :
    (let s := { withPins .executing 0xA00 (asking true true true) with dbgPending := true }
     boundaryPremise .executing s ∧ s.sample.dbgPending = true) :=
  ⟨⟨rfl, rfl, rfl⟩, rfl⟩

theorem witness_Boundary_tagged :
    (let s := { withPins .executing 0xA00 { asking false false false with tag := true } with dcr := 0x100 }
     boundaryPremise .executing s ∧ s.sample.dcr.getLsbD dcrEfb = true ∧ s.sample.pins.tag = true) :=
  ⟨⟨rfl, rfl, rfl⟩, by decide, rfl⟩

/-- What the clauses of BoundaryPriority and WaitState ask of the sampled state: a due DBG, and the
requests NMI, INT (with E and I set) and ISE, and P. -/
def boundaryCase (s : State) (dbg nmi int ise trc : Bool) : Bool :=
  let u := s.sample
  let q := u.pins.atBoundary
  (u.dbgPending || (u.dcr.getLsbD dcrEfb && u.pins.tag)) == dbg && q.nmi == nmi &&
    (q.int && u.flag psrE && u.flag psrI) == int && q.ise == ise && u.flag psrP == trc

theorem witness_Boundary_nmi :
    (let s := withPins .executing 0xE00 (asking true true true)
     boundaryPremise .executing s ∧ boundaryCase s false true true true true = true) :=
  ⟨⟨rfl, rfl, rfl⟩, by decide⟩

theorem witness_Boundary_int :
    (let s := withPins .executing 0xE00 (asking false true true)
     boundaryPremise .executing s ∧ boundaryCase s false false true true true = true) :=
  ⟨⟨rfl, rfl, rfl⟩, by decide⟩

theorem witness_Boundary_ise_masked_int :
    (let s := withPins .executing 0x600 (asking false true true)
     boundaryPremise .executing s ∧ boundaryCase s false false false true true = true) :=
  ⟨⟨rfl, rfl, rfl⟩, by decide⟩

theorem witness_Boundary_trace :
    (let s := withPins .executing 0xC00 (asking false true false)
     boundaryPremise .executing s ∧ boundaryCase s false false false false true = true) :=
  ⟨⟨rfl, rfl, rfl⟩, by decide⟩

theorem witness_Boundary_instruction :
    (let s := withPins .executing 0x802 (asking false true false)
     boundaryPremise .executing s ∧ boundaryCase s false false false false false = true) :=
  ⟨⟨rfl, rfl, rfl⟩, by decide⟩

theorem witness_Wait_nmi :
    (let s := withPins .waiting 0xA00 (asking true true true)
     boundaryPremise .waiting s ∧ boundaryCase s false true true true false = true) :=
  ⟨⟨rfl, rfl, rfl⟩, by decide⟩

theorem witness_Wait_int :
    (let s := withPins .waiting 0xA00 (asking false true true)
     boundaryPremise .waiting s ∧ boundaryCase s false false true true false = true) :=
  ⟨⟨rfl, rfl, rfl⟩, by decide⟩

theorem witness_Wait_ise_masked_int :
    (let s := withPins .waiting 0x800 (asking false true true)
     boundaryPremise .waiting s ∧ boundaryCase s false false false true false = true) :=
  ⟨⟨rfl, rfl, rfl⟩, by decide⟩

theorem witness_Wait_stays :
    (let s := withPins .waiting 0x200 (asking false true false)
     boundaryPremise .waiting s ∧ boundaryCase s false false false false false = true) :=
  ⟨⟨rfl, rfl, rfl⟩, by decide⟩

theorem witness_Fetch_unmarked :
    adding.storedWord 0x1FFFFF#21 ∧ adding.marked 0x1FFFFF#21 = false ∧
    adding.marked (0x1FFFFF#21 + 1) = false :=
  ⟨⟨.inl (by decide), .inl (by decide)⟩, by decide, by decide⟩

theorem witness_Fetch_marked :
    (let s := { adding with stale := [(0x1000, 0x55#8)] }
     s.storedWord 0x1000#21 ∧ s.marked 0x1000#21 = true) :=
  ⟨⟨.inl (by decide), .inl (by decide)⟩, by decide⟩

/-- The reset input active in the coming step. -/
def resetting : Pins := { asking false false false with reset := true }

theorem witness_ResetEvent_event :
    (withPins .executing 0xA00 resetting).sample.pins.reset = true ∧
    (withPins .executing 0xA00 resetting).opState ≠ .reset := by decide

theorem witness_ResetEvent_held :
    (withPins .reset 0x200 resetting).sample.pins.reset = true ∧
    (withPins .reset 0x200 resetting).opState = .reset := by decide

theorem witness_ResetEvent_released :
    (let s := withPins .reset 0x200 (asking false false false)
     s.opState = .reset ∧ s.sample.pins.reset = false ∧ s.sample.pins.resetInside = false) ∧
    (let s := withPins .reset 0x200 { asking false false false with resetInside := true }
     s.opState = .reset ∧ s.sample.pins.reset = false ∧ s.sample.pins.resetInside = true) := by decide

/-- A step that answers a next state. -/
def goesOn (o : Result) : Bool := answers o fun _ => true

/-- A reset inside the coming step, with the given requests. -/
def resettingInside (nmi : Bool) : Pins := { asking nmi false false with resetInside := true }

theorem witness_ResetInside_instruction :
    (let s := { adding with pinsAhead := [resettingInside false] }
     s.sample.pins.reset = false ∧ s.sample.pins.resetInside = true ∧ s.opState = .executing ∧
     s.sample.boundaryException = none ∧ Instr.WellFormed (.addwReg 0 1) ∧ s.holdsAtPc (.addwReg 0 1) ∧
     goesOn (exec (.addwReg 0 1) s.sample.beginInstruction) = true) := by
  refine ⟨by decide, by decide, by decide, by decide, by decide, ?_, by decide⟩
  unfold State.holdsAtPc State.isStored
  decide

/-- A fetch answers the instruction, or refuses the word. -/
def fetched (s : State) (i : Option Instr) : Bool :=
  match s.fetch.1, i with
  | .ok j, some k => decide (j = k)
  | .error _, none => true
  | .ok _, none => false
  | .error _, some _ => false

theorem witness_ResetInside_fetched :
    (let v := ({ adding with pinsAhead := [resettingInside false] } : State).sample.beginInstruction
     fetched v (some (.addwReg 0 1)) = true ∧ goesOn (exec (.addwReg 0 1) v.fetch.2) = true) ∧
    (let s := { undefinedNext with pinsAhead := [resettingInside false] }
     s.sample.pins.reset = false ∧ s.sample.pins.resetInside = true ∧ s.opState = .executing ∧
     s.sample.boundaryException = none ∧ fetched s.sample.beginInstruction none = true) := by decide

theorem witness_ResetInside_suspended_multiply :
    (let p : Pins := { resettingInside false with duringMul := ⟨false, true, false⟩ }
     let v := ({ multiplying with pinsAhead := [p] } : State).sample.beginInstruction
     isMultiply (.mulwReg 0 1) = true ∧ (v.acceptedInterrupt v.pins.duringMul).isSome = true) := by decide

theorem witness_ResetInside_waiting :
    (let s := withPins .waiting 0x200 (resettingInside false)
     s.sample.pins.reset = false ∧ s.sample.pins.resetInside = true ∧ s.opState = .waiting ∧
     s.sample.acceptedInterrupt s.sample.pins.atBoundary = none) := by decide

theorem witness_ResetInside_entry :
    (withPins .executing 0x200 (resettingInside true)).sample.boundaryException = some .nmi ∧
    (let s := withPins .waiting 0x200 (resettingInside true)
     s.sample.acceptedInterrupt s.sample.pins.atBoundary = some .nmi) := by decide

/-- R301 with R300: a NOP at 0x21000 with T, E and I set writes nothing, so R0 and R1 receive its address
and the PSR with P as the instruction's start left it (60_exceptions.md R258). -/
theorem test_reset_inside_saves_pc_and_status :
    (let s := machine 0x21000 0xA02 [] []
     let t := s.beginInstruction.resetInside s []
     t.reg 0 = 0x0800#16 ∧ t.reg 1 = 0x1E02#16) := by
  have e : flagMask [] = 0 := by decide
  refine ⟨by decide, ?_⟩
  show frameHigh _ (maskedWrite _ _ (flagMask [])) = _
  rw [e, maskedWrite, show ∀ w : Word, w &&& 0 = 0 from fun _ => BitVec.and_zero]
  decide

/-- The invariant, field by field. -/
def invariantHolds (s : State) : Bool :=
  s.mem.wf && !s.pc.getLsbD 0 && ispOk s.isp && !s.intbase.getLsbD 0 && psrConstantsOk s.psr

theorem witness_StepKeepsInvariant : invariantHolds adding = true ∧ goesOn (step adding) = true := by decide

theorem witness_DebugLockKept :
    (let s := { adding with dcr := 0xBC00 }
     s.dcr.getLsbD dcrDbgl = true ∧ s.sample.pins.reset = false ∧ s.sample.pins.resetInside = false ∧
     goesOn (step s) = true) := by decide

theorem witness_FlagsOnly_ordinary :
    goesOn (exec (.addwReg 0 1) adding) = true ∧ isMultiply (.addwReg 0 1) = false := by decide

theorem witness_FlagsOnly_suspended :
    goesOn (exec (.mulwReg 0 1) multiplying) = true ∧ isMultiply (.mulwReg 0 1) = true ∧
    (multiplying.acceptedInterrupt multiplying.pins.duringMul).isSome = true := by decide

theorem witness_SpecialsOnlyByLpr :
    (∀ src c, Instr.addwReg 0 1 ≠ .lpr src c) ∧ goesOn (exec (.addwReg 0 1) adding) = true :=
  ⟨nofun, by decide⟩

theorem witness_PlatformFixed : goesOn (step adding) = true := by decide

theorem witness_MemoryChanges_stored_and_kept :
    answers (exec (.storbDisp5 0 0 1) adding) (fun t =>
      t.written == [9] && kindIn adding.platform.map 9 == .ram && !t.written.contains 8) = true := by decide

theorem witness_StoredBytes :
    storedBytes (.storbDisp5 0 0 1) adding = [9#21] ∧ storedBytes (.addwReg 0 1) adding = [] ∧
    storedBytes (.push 1 4) lowStack = [0xFFFE#21, 0xFFFF#21, 0#21, 1#21] ∧
    storedBytes (.mulwReg 0 1) multiplying = [0xFFC#21, 0xFFD#21, 0xFFE#21, 0xFFF#21] ∧
    storedBytes (.mulwReg 0 1) adding = [] := by decide

theorem witness_WordReadAndWrite_ram_at_the_top :
    adding.mem.wf = true ∧ adding.ramWord 0x1FFFFF#21 := ⟨by decide, rfl, rfl⟩

theorem witness_ByteStored_ram_and_not :
    withMap.mem.wf = true ∧ withMap.isRam 0xEFFF#21 ∧ ¬ withMap.isRam 0xF000#21 ∧ ¬ withMap.isRam 0xF1FF#21 ∧
    withMap.isRam 0xF200#21 := by
  unfold State.isRam
  decide

theorem witness_Load_ram_rom_device :
    withMap.isStored 0xEFFF#21 ∧ ¬ withMap.isStored 0xF0FF#21 ∧ withMap.isStored 0xF100#21 ∧
    withMap.storedWord 0xF1FF#21 ∧ ¬ withMap.storedWord 0xEFFF#21 := by
  unfold State.storedWord State.isStored
  decide

theorem witness_short_immediates : (16#5 ≠ 17 ∧ 18#5 ≠ 17) ∧ (30#5).getLsbD 0 = false := by decide

theorem witness_Movd_registers : (14 : Reg) ≠ 15 ∧ (0 : Reg) ≠ 15 := by decide

theorem witness_Movd_excluded :
    (match exec (.movd 1 15) adding with
      | .refused .excludedRegisterPair => true
      | .refused (.notModelled _) => false
      | .next _ => false
      | .fault _ => false) = true := by decide

theorem witness_Multiply_uninterrupted : ¬ adding.interruptsMultiply := by
  unfold State.interruptsMultiply
  decide

theorem witness_MultiplySuspended :
    isMultiply (.mulsw 3 14) = true ∧ (∀ r, Instr.mulsw 3 14 ≠ .mulsw r 15) ∧
    (∀ q, Instr.mulsw 3 14 ≠ .muluw q 15) ∧
    multiplying.acceptedInterrupt multiplying.pins.duringMul = some .int :=
  ⟨by decide, by decide, nofun, by decide⟩

theorem witness_MultiplySuspended_nmi :
    (let s := { multiplying with psr := 0x200, pins := ⟨false, false, .quiet, ⟨true, true, true⟩, 16, false⟩ }
     s.acceptedInterrupt s.pins.duringMul = some .nmi) := by decide

/-- The clauses of ShiftEffect a count byte falls under. -/
def shiftCase (w b : Nat) : List Bool :=
  let n := signedOf 8 (b % 256)
  [decide (0 ≤ n ∧ n.natAbs < w), decide (n < 0 ∧ n.natAbs < w)]

theorem witness_Shift_counts :
    shiftCase 8 0 = [true, false] ∧ shiftCase 8 7 = [true, false] ∧ shiftCase 8 8 = [false, false] ∧
    shiftCase 8 0xFF = [false, true] ∧ shiftCase 8 0xF9 = [false, true] ∧ shiftCase 8 0xF8 = [false, false] ∧
    shiftCase 16 15 = [true, false] ∧ shiftCase 16 0xF1 = [false, true] ∧
    shiftCase 16 0xF0 = [false, false] := by decide

theorem witness_Conditions :
    CondTrue (machine 0 0xE7 [] []) .eq ∧ ¬ CondTrue (machine 0 0xE7 [] []) .lo ∧
    CondTrue (machine 0 0 [] []) .lo ∧ CondTrue (machine 0 0 [] []) .lt ∧
    ¬ CondTrue (machine 0 0 [] []) .ge ∧ CondTrue (machine 0 4 [] []) .hs := by
  unfold CondTrue
  decide

theorem witness_Bal_Jump_registers :
    ((13 : Reg) ≠ 14 ∧ (13 : Reg) ≠ 15) ∧ ((0 : Reg) ≠ 14 ∧ (0 : Reg) ≠ 15) := by decide

theorem witness_Jal_pairs :
    (13 : Reg).val < 14 ∧ (13 : Reg).val + 1 ≠ (11 : Reg).val ∧ (11 : Reg).val + 1 ≠ (13 : Reg).val ∧
    (let l : Reg := 4; let r : Reg := 5; ¬ (l.val < 14 ∧ r.val < 14 ∧ l.val + 1 ≠ r.val ∧ r.val + 1 ≠ l.val)) := by
  decide

theorem witness_Jump_not_taken_pair :
    (let s := machine 0 0 [] []; ¬ CondTrue s .eq ∧ goesOn (exec (.jeqLarge 15) s) = true) := by
  unfold CondTrue
  decide

theorem witness_Push_Pop_counts :
    (12 : Reg).val + (2#2).toNat < 15 ∧ (14 : Reg).val + (0#2).toNat < 15 ∧ 15 ≤ (15 : Reg).val + (0#2).toNat ∧
    15 ≤ (12 : Reg).val + (3#2).toNat := by decide

theorem witness_Push_wrapped_words :
    lowStack.mem.wf = true ∧ lowStack.ramWord ((lowStack.reg 15 - BitVec.ofNat 16 4).setWidth 21) ∧
    lowStack.ramWord ((lowStack.reg 15 - BitVec.ofNat 16 2).setWidth 21) := by
  unfold State.ramWord State.isRam
  decide

theorem witness_Pop_words :
    lowStack.storedWord ((lowStack.reg 15 + BitVec.ofNat 16 0).setWidth 21) ∧
    lowStack.storedWord ((lowStack.reg 15 + BitVec.ofNat 16 6).setWidth 21) := by
  unfold State.storedWord State.isStored
  decide

theorem witness_UnassignedProcCodes :
    (0#4 ∈ [0, 2, 6, 8, 10, 12, 15]) ∧ (15#4 ∈ [0, 2, 6, 8, 10, 12, 15]) ∧ ¬ (14#4 ∈ [0, 2, 6, 8, 10, 12, 15]) := by
  decide

theorem witness_Dcr_lock_open_and_closed :
    (0x8000#16).getLsbD 15 = true ∧ (0x7FFF#16).getLsbD 15 = false := by decide

theorem witness_Status_requests :
    (asking false true false).atBoundary.nmi = false ∧ (asking false true false).atBoundary.int = true := by decide

theorem witness_ExceptionEntry_frame :
    (let s := { adding with isp := 2 }
     s.mem.wf = true ∧ ∀ a ∈ frameBytes s, s.isRam a) :=
  ⟨by decide, fun _ _ => rfl⟩

theorem witness_ExceptionEntry_dispatch :
    alternate { adding with dcr := 0x400 } .bpt ∧ ¬ alternate { adding with dcr := 0x400 } .und ∧
    adding.cfgEd = false ∧ ({ adding with cfg := 0x100 } : State).cfgEd = true := by
  unfold alternate
  decide

theorem witness_ExceptionEntry_words :
    (let t := adding.takeException .bpt adding.pc
     t.storedWord (BitVec.ofNat 21 (vectorNumber .bpt 0 * 2)) ∧ t.pc.toNat = 0) := by
  unfold State.storedWord State.isStored
  decide

theorem witness_Retx_frame :
    (let s := { adding with isp := 0xFFFC }
     s.storedWord (stackAddr s.isp 0) ∧ s.storedWord (stackAddr s.isp 2)) := by
  unfold State.storedWord State.isStored
  decide

/-- The premise of a match in CompareAddressMatch. -/
def hitsCompare (s : State) (en : Nat) (a : Addr) : Bool :=
  s.dcr.getLsbD dcrDen && !s.dcr.getLsbD dcrPc && s.dcr.getLsbD en && a.toNat / 2 == s.car.toNat / 2 &&
    s.dcr.getLsbD (a.toNat % 2)

/-- Compare-address armed for both kinds of access to the even byte of the word at 0x4000. -/
def armed : State := { adding with dcr := 0xE1, car := 0x4000 }

theorem witness_CompareAddress :
    hitsCompare armed dcrCrd 0x4000#21 = true ∧ hitsCompare armed dcrCwr 0x4000#21 = true ∧
    hitsCompare armed dcrCrd 0x4001#21 = false ∧ hitsCompare armed dcrCwr 0x3FFF#21 = false ∧
    hitsCompare { armed with dcr := 0xE2 } dcrCrd 0x4001#21 = true := by decide

theorem witness_DebugUnit_hit :
    armed.debugUnit.Hit armed.car (.read, 0x4000#21) ∧ armed.debugUnit.Hit armed.car (.write, 0x4000#21) ∧
    ¬ armed.debugUnit.Hit armed.car (.write, 0x4001#21) ∧
    ¬ ({ armed with dcr := 0xA1 } : State).debugUnit.Hit armed.car (.read, 0x4000#21) := by
  unfold DebugUnit.Hit
  decide

theorem witness_Entered_hits :
    (let s := { armed with isp := 0x4004 }
     s.debugUnit.Hit s.car (.write, 0x4000#21) ∧ 0x4000#21 ∈ frameBytes s) ∧
    (let s := { armed with car := 0xFE00 }
     s.debugUnit.Hit s.car (.read, 0xFE00#21) ∧ 0xFE00#21 ∈ acknowledgeBytes s .int) ∧
    (let s := { armed with car := 0x10 }
     s.debugUnit.Hit s.car (.read, 0x10#21) ∧ 0x10#21 ∈ dispatchBytes s .bpt) := by
  unfold DebugUnit.Hit dispatchBytes dispatchAt alternate
  decide

theorem witness_TaggedInstruction :
    (let s := { adding with dcr := 0x100, pins := { asking false false false with tag := true } }
     s.dcr.getLsbD dcrEfb = true ∧ s.pins.tag = true) ∧
    ¬ (adding.dcr.getLsbD dcrEfb = true ∧ adding.pins.tag = true) := by decide

/-! ## The host's placing of an instruction -/

theorem test_placed_word_is_fetched :
    ends (step (State.reset.withFetchWord 32 0x80003851)) 4 0x200 [(2, 0x8000)] [] = true := by decide

end Sys2Proof.Tests
end

section
/-! SUPPORT. What an executed instruction can do, said once: the shared operation it runs. Then the platform
under the operations that branch, under every instruction, and under a step (00_scope.md R7). -/

namespace Sys2Proof.Machine

/-! ### What exec can do -/

/-- `ExecutesTo s t`: from s some instruction that goes on answers t, one constructor for each shared operation
the families run. -/
inductive ExecutesTo (s : State) : State → Prop
  | arithByte (dest : Reg) (r : Arith 8) (len : Addr) : ExecutesTo s (s.arithByte dest r len)
  | arithWord (dest : Reg) (r : Arith 16) (len : Addr) : ExecutesTo s (s.arithWord dest r len)
  | resultByte (dest : Reg) (v : Byte) (len : Addr) : ExecutesTo s (s.resultByte dest v len)
  | resultWord (dest : Reg) (v : Word) (len : Addr) : ExecutesTo s (s.resultWord dest v len)
  | resultPair (dest : Reg) (p : BitVec 32) (len : Addr) (h : dest ≠ Reg.sp) :
      ExecutesTo s (s.resultPair dest p len)
  | multiplyByte (dest : Reg) (v : Byte) (len : Addr) : ExecutesTo s (s.multiply (s.resultByte dest v len))
  | multiplyWord (dest : Reg) (v : Word) (len : Addr) : ExecutesTo s (s.multiply (s.resultWord dest v len))
  | multiplyPair (dest : Reg) (p : BitVec 32) (len : Addr) (h : dest ≠ Reg.sp) :
      ExecutesTo s (s.multiply (s.resultPair dest p len))
  | shiftByte (dest : Reg) (v : Option Byte) (len : Addr) : ExecutesTo s (s.shiftByte dest v len)
  | shiftWord (dest : Reg) (v : Option Word) (len : Addr) : ExecutesTo s (s.shiftWord dest v len)
  | compareByte (a b : Byte) (len : Addr) : ExecutesTo s (s.compare a b len)
  | compareWord (a b : Word) (len : Addr) : ExecutesTo s (s.compare a b len)
  | testBit (v pos : Word) (len : Addr) : ExecutesTo s (s.testBit v pos len)
  | testByteAt (ea : Addr) (pos : BitVec 4) (len : Addr) : ExecutesTo s (s.testByteAt ea pos len)
  | testWordAt (ea : Addr) (pos : BitVec 4) (len : Addr) : ExecutesTo s (s.testWordAt ea pos len)
  | changeByteAt (ea : Addr) (pos : BitVec 4) (b : Bool) (len : Addr) : ExecutesTo s (s.changeByteAt ea pos b len)
  | changeWordAt (ea : Addr) (pos : BitVec 4) (b : Bool) (len : Addr) : ExecutesTo s (s.changeWordAt ea pos b len)
  | branch (taken : Bool) (target len : Addr) : ExecutesTo s (s.branch taken target len)
  | jump (target : Addr) : ExecutesTo s (s.setPc target)
  | linkSmall (link : Reg) (next target : Addr) : ExecutesTo s ((s.linkOne link next).setPc target)
  | linkLarge (link : Reg) (next target : Addr) (h : excludedPair link = false) :
      ExecutesTo s ((s.linkTwo link next).setPc target)
  | push (rcnt : BitVec 2) (src : Reg) : ExecutesTo s ((s.pushRun rcnt src).advance 2)
  | pop (rcnt : BitVec 2) (dest : Reg) : ExecutesTo s ((s.popRun rcnt dest).advance 2)
  | popReturn (rcnt : BitVec 2) (dest : Reg) (target : Addr) :
      ExecutesTo s ((s.popRun rcnt dest).popReturn (reachesSp dest rcnt) target)
  | loadByteInto (dest : Reg) (ea len : Addr) : ExecutesTo s (s.loadByteInto dest ea len)
  | loadWordInto (dest : Reg) (ea len : Addr) : ExecutesTo s (s.loadWordInto dest ea len)
  | storeByteAt (ea : Addr) (v : Byte) (len : Addr) : ExecutesTo s (s.storeByteAt ea v len)
  | storeWordAt (ea : Addr) (v : Word) (len : Addr) : ExecutesTo s (s.storeWordAt ea v len)
  | loadMany (rcnt : BitVec 2) :
      ExecutesTo s (((s.loadRegs (s.reg 0) (regRun 2 (countOf rcnt))).setReg 0 (s.reg 0 + runBytes rcnt)).advance 2)
  | storeMany (rcnt : BitVec 2) :
      ExecutesTo s (((s.storeWords (s.reg 1) ((regRun 2 (countOf rcnt)).map s.reg)).setReg 1
        (s.reg 1 + runBytes rcnt)).advance 2)
  | writeProc (p : ProcReg) (v : Word) : ExecutesTo s ((s.writeProc p v).advance 2).serialize
  | writeNoProc : ExecutesTo s (s.advance 2).serialize
  | readProc (p : ProcReg) (dest : Reg) :
      ExecutesTo s ((s.readProc p).2.resultWord dest (s.readProc p).1 2).serialize
  | readNoProc (dest : Reg) : ExecutesTo s (s.drawWord.2.resultWord dest s.drawWord.1 2).serialize
  | nop : ExecutesTo s (s.advance 2)
  | setEnable (b : Bool) : ExecutesTo s ((s.setFlag psrE b).advance 2)
  | wait : ExecutesTo s ((s.advance 2).setOpState .waiting)
  | enableWait : ExecutesTo s (((s.setFlag psrE true).advance 2).setOpState .waiting)
  | trap (vector : BitVec 4) : ExecutesTo s (s.takeException (excpTrap vector) s.pc)
  | returnFromException : ExecutesTo s s.returnFromException

/-- An instruction that names a pair goes on only where the pair exists. -/
theorem withPair_next {dest : Reg} {t u : State} (h : withPair dest t = .next u) : dest ≠ Reg.sp ∧ u = t := by
  unfold withPair at h
  split at h
  · cases h
  · next hd => exact ⟨hd, (Host.Outcome.next.inj h).symm⟩

/-- A jump through a pair that goes on is a branch. -/
theorem executesTo_jumpPair {s t : State} {taken : Bool} {target : Reg} (h : s.jumpPair taken target = .next t) :
    ExecutesTo s t := by
  unfold State.jumpPair at h
  split at h
  · cases h
  · cases h; exact .branch _ _ _

theorem executesTo_balLarge {s t : State} {link : Reg} {disp : BitVec 21}
    (h : execBalLarge link disp s = .next t) : ExecutesTo s t := by
  unfold execBalLarge at h
  split at h
  · cases h
  · next hl => cases h; exact .linkLarge _ _ _ (by simpa using hl)

theorem executesTo_jalLarge {s t : State} {link target : Reg} (h : execJalLarge link target s = .next t) :
    ExecutesTo s t := by
  unfold execJalLarge at h
  split at h
  · cases h
  · next hl =>
    simp only [Bool.or_eq_true, not_or, Bool.not_eq_true] at hl
    obtain ⟨⟨hlink, _⟩, _⟩ := hl
    cases h; exact .linkLarge _ _ _ hlink

theorem executesTo_lpr {s t : State} {src : Reg} {rproc : BitVec 4} (h : execLpr src rproc s = .next t) :
    ExecutesTo s t := by
  unfold execLpr at h
  split at h <;> cases h
  · exact .writeProc _ _
  · exact .writeNoProc

theorem executesTo_spr {s t : State} {rproc : BitVec 4} {dest : Reg} (h : execSpr rproc dest s = .next t) :
    ExecutesTo s t := by
  unfold execSpr at h
  split at h <;> cases h
  · exact .readProc _ _
  · exact .readNoProc _

/-- Every instruction that answers a next state runs one of the shared operations. -/
theorem exec_executesTo {i : Instr} {s t : State} (h : exec i s = .next t) : ExecutesTo s t := by
  cases i with
  | addbReg | addbImm5 | addbImm16 | addcbReg | addcbImm5 | addcbImm16 | subcbReg | subcbImm5 | subcbImm16
    | subbReg | subbImm5 | subbImm16 =>
    cases h; exact .arithByte _ _ _
  | addwReg | addwImm5 | addwImm16 | addcwReg | addcwImm5 | addcwImm16 | subcwReg | subcwImm5 | subcwImm16
    | subwReg | subwImm5 | subwImm16 =>
    cases h; exact .arithWord _ _ _
  | addubReg | addubImm5 | addubImm16 | xorbReg | xorbImm5 | xorbImm16 | andbReg | andbImm5 | andbImm16
    | movbReg | movbImm5 | movbImm16 | orbReg | orbImm5 | orbImm16 =>
    cases h; exact .resultByte _ _ _
  | adduwReg | adduwImm5 | adduwImm16 | xorwReg | xorwImm5 | xorwImm16 | andwReg | andwImm5 | andwImm16
    | movwReg | movwImm5 | movwImm16 | orwReg | orwImm5 | orwImm16 | movxb | movzb | seq | sne | scs | scc | shi
    | sls | sgt | sle | sfs | sfc | slo | shs | slt | sge =>
    cases h; exact .resultWord _ _ _
  | mulbReg | mulbImm5 | mulbImm16 => cases h; exact .multiplyByte _ _ _
  | mulwReg | mulwImm5 | mulwImm16 | mulsb => cases h; exact .multiplyWord _ _ _
  | ashubReg | ashubImm5 | ashubImm16 | lshbReg | lshbImm5 | lshbImm16 => cases h; exact .shiftByte _ _ _
  | ashuwReg | ashuwImm5 | ashuwImm16 | lshwReg | lshwImm5 | lshwImm16 => cases h; exact .shiftWord _ _ _
  | cmpbReg | cmpbImm5 | cmpbImm16 => cases h; exact .compareByte _ _ _
  | cmpwReg | cmpwImm5 | cmpwImm16 => cases h; exact .compareWord _ _ _
  | tbitReg | tbitImm5 | tbitImm16 => cases h; exact .testBit _ _ _
  | nop => cases h; exact .nop
  | beq0b | beq0w | beq1b | beq1w | bne0b | bne0w | bne1b | bne1w | beqDisp9 | beqDisp17 | beqDisp21
    | bneDisp9 | bneDisp17 | bneDisp21 | bcsDisp9 | bcsDisp17 | bcsDisp21 | bccDisp9 | bccDisp17 | bccDisp21
    | bhiDisp9 | bhiDisp17 | bhiDisp21 | blsDisp9 | blsDisp17 | blsDisp21 | bgtDisp9 | bgtDisp17 | bgtDisp21
    | bleDisp9 | bleDisp17 | bleDisp21 | bfsDisp9 | bfsDisp17 | bfsDisp21 | bfcDisp9 | bfcDisp17 | bfcDisp21
    | bloDisp9 | bloDisp17 | bloDisp21 | bhsDisp9 | bhsDisp17 | bhsDisp21 | bltDisp9 | bltDisp17 | bltDisp21
    | bgeDisp9 | bgeDisp17 | bgeDisp21 | jeqSmall | jneSmall | jcsSmall | jccSmall | jhiSmall | jlsSmall
    | jgtSmall | jleSmall | jfsSmall | jfcSmall | jloSmall | jhsSmall | jltSmall | jgeSmall =>
    cases h; exact .branch _ _ _
  | movd => obtain ⟨hd, rfl⟩ := withPair_next h; exact .resultPair _ _ _ hd
  | mulsw | muluw => obtain ⟨hd, rfl⟩ := withPair_next h; exact .multiplyPair _ _ _ hd
  | push => cases h; exact .push _ _
  | pop => cases h; exact .pop _ _
  | popretSmall | popretLarge => cases h; exact .popReturn _ _ _
  | lpr => exact executesTo_lpr h
  | spr => exact executesTo_spr h
  | brDisp9 | brDisp17 | brDisp21 | jumpSmall => cases h; exact .jump _
  | balSmall | jalSmall => cases h; exact .linkSmall _ _ _
  | balLarge => exact executesTo_balLarge h
  | jeqLarge | jneLarge | jcsLarge | jccLarge | jhiLarge | jlsLarge | jgtLarge | jleLarge | jfsLarge
    | jfcLarge | jloLarge | jhsLarge | jltLarge | jgeLarge | jumpLarge =>
    exact executesTo_jumpPair h
  | jalLarge => exact executesTo_jalLarge h
  | retx => cases h; exact .returnFromException
  | excp => cases h; exact .trap _
  | di | ei => cases h; exact .setEnable _
  | loadm => cases h; exact .loadMany _
  | storm => cases h; exact .storeMany _
  | eiwait => cases h; exact .enableWait
  | wait => cases h; exact .wait
  | loadbDisp5 | loadbDisp18 | loadbFar | loadbAbs => cases h; exact .loadByteInto _ _ _
  | loadwDisp5 | loadwDisp18 | loadwFar | loadwAbs => cases h; exact .loadWordInto _ _ _
  | storbDisp5 | storbDisp18 | storbFar | storbAbs | storbImmBase | storbImmDisp16 | storbImmAbs =>
    cases h; exact .storeByteAt _ _ _
  | storwDisp5 | storwDisp18 | storwFar | storwAbs | storwImmBase | storwImmDisp16 | storwImmAbs =>
    cases h; exact .storeWordAt _ _ _
  | cbitbBase | cbitbDisp16 | cbitbAbs | sbitbBase | sbitbDisp16 | sbitbAbs =>
    cases h; exact .changeByteAt _ _ _ _
  | cbitwBase | cbitwDisp16 | cbitwAbs | sbitwBase | sbitwDisp16 | sbitwAbs =>
    cases h; exact .changeWordAt _ _ _ _
  | tbitbBase | tbitbDisp16 | tbitbAbs => cases h; exact .testByteAt _ _ _
  | tbitwBase | tbitwDisp16 | tbitwAbs => cases h; exact .testWordAt _ _ _

/-! ### The platform under the shared operations -/

@[simp] theorem State.shiftByte_platform (s : State) (dest : Reg) (v : Option Byte) (len : Addr) :
    (s.shiftByte dest v len).platform = s.platform := by
  cases v <;> rfl

@[simp] theorem State.shiftWord_platform (s : State) (dest : Reg) (v : Option Word) (len : Addr) :
    (s.shiftWord dest v len).platform = s.platform := by
  cases v <;> rfl

@[simp] theorem State.testBit_platform (s : State) (v pos : Word) (len : Addr) :
    (s.testBit v pos len).platform = s.platform := by
  unfold State.testBit
  split <;> rfl

@[simp] theorem State.testByteAt_platform (s : State) (ea : Addr) (pos : BitVec 4) (len : Addr) :
    (s.testByteAt ea pos len).platform = s.platform := by
  unfold State.testByteAt
  split <;> simp

@[simp] theorem State.changeByteAt_platform (s : State) (ea : Addr) (pos : BitVec 4) (b : Bool) (len : Addr) :
    (s.changeByteAt ea pos b len).platform = s.platform := by
  unfold State.changeByteAt
  split <;> simp

@[simp] theorem State.branch_platform (s : State) (taken : Bool) (target len : Addr) :
    (s.branch taken target len).platform = s.platform := by
  cases taken <;> rfl

/-- A multiply completes, or is suspended by an exception entry (41_arithmetic.md R149). -/
theorem State.multiply_platform {s t : State} (h : t.platform = s.platform) :
    (s.multiply t).platform = s.platform := by
  unfold State.multiply
  split
  · exact s.suspendMultiply_platform _
  · exact h

@[simp] theorem State.pushRun_platform (s : State) (rcnt : BitVec 2) (r : Reg) :
    (s.pushRun rcnt r).platform = s.platform := by
  unfold State.pushRun
  split <;> simp

@[simp] theorem State.popRun_platform (s : State) (rcnt : BitVec 2) (r : Reg) :
    (s.popRun rcnt r).platform = s.platform := by
  unfold State.popRun
  split <;> simp

@[simp] theorem State.popReturn_platform (s : State) (reached : Bool) (target : Addr) :
    (s.popReturn reached target).platform = s.platform := by
  cases reached <;> rfl

/-! ### The platform under an instruction -/

/-- No shared operation an instruction runs writes the platform. -/
theorem ExecutesTo.platform {s t : State} (h : ExecutesTo s t) : t.platform = s.platform := by
  cases h with
  | arithByte | arithWord | resultByte | resultWord | resultPair | compareByte | compareWord => rfl
  | multiplyByte | multiplyWord | multiplyPair => exact State.multiply_platform rfl
  | shiftByte | shiftWord => simp
  | testBit | testByteAt | changeByteAt => simp
  | testWordAt => simp [State.testWordAt]
  | changeWordAt => simp [State.changeWordAt]
  | branch => simp
  | jump | linkSmall | linkLarge => rfl
  | push | pop | popReturn => simp
  | loadByteInto => simp [State.loadByteInto]
  | loadWordInto => simp [State.loadWordInto]
  | storeByteAt => simp [State.storeByteAt]
  | storeWordAt => simp [State.storeWordAt]
  | loadMany | storeMany => simp
  | writeProc | writeNoProc => simp
  | readProc | readNoProc => simp [State.resultWord]
  | nop | setEnable | wait | enableWait => rfl
  | trap => simp
  | returnFromException => simp

theorem exec_platform {i : Instr} {s t : State} (h : exec i s = .next t) : t.platform = s.platform :=
  (exec_executesTo h).platform

theorem State.executeInstruction_platform {s t : State} (h : s.executeInstruction = .next t) :
    t.platform = s.platform := by
  obtain ⟨_, _, rfl⟩ | ⟨i, _, hi⟩ := State.executeInstruction_cases h
  · simp
  · rw [exec_platform hi, State.fetch_platform, State.beginInstruction_platform]

/-! ### The platform under a step -/

theorem State.coreStep_platform {s t : State} (h : s.coreStep = .next t) : t.platform = s.platform := by
  obtain ⟨_, rfl⟩ | ⟨v, hv, hstep⟩ := State.coreStep_cases h
  · rfl
  · have hvs : v.platform = s.platform := by obtain rfl | rfl := hv <;> rfl
    obtain ⟨x, rfl⟩ | hrun := hstep
    · rw [State.takeException_platform, hvs]
    · rw [State.executeInstruction_platform hrun, hvs]

@[simp] theorem State.resetEvent_platform (s : State) : s.resetEvent.platform = s.platform := rfl

@[simp] theorem State.resetStep_platform (s : State) : s.resetStep.platform = s.platform := by
  unfold State.resetStep
  split <;> rfl

/-- A reset inside an instruction resets what the instruction would complete as. -/
@[simp] theorem State.resetInside_platform (s t : State) (ks : List Nat) :
    (s.resetInside t ks).platform = t.platform := by
  simp [State.resetInside]

@[simp] theorem State.resetDuring_platform (s t : State) : (s.resetDuring t).platform = t.platform := by
  obtain ⟨_, e⟩ | ⟨_, e⟩ := State.resetDuring_cases s t <;> simp [e]

/-- Settles O19, by the cases of a step: a reset step, a step of the core, or a reset inside one. -/
theorem platformFixed : Obligations.PlatformFixed := by
  intro s t h
  obtain ⟨_, rfl⟩ | ⟨_, c, hc, rfl⟩ := step_cases h
  · rw [State.resetStep_platform, State.sample_platform]
  · have hcs : c.platform = s.platform := by rw [State.coreStep_platform hc, State.sample_platform]
    split
    · rw [State.resetDuring_platform, hcs]
    · exact hcs

end Sys2Proof.Machine
end

section
/-! SUPPORT. The structural invariant (10_state.md R26, R28, R36 to R38; 20_memory.md R60) under the shared
operations, under an exception entry, under a reset, and under every step. -/

namespace Sys2Proof.Machine

/-! ### Constant bits -/

/-- A mask finds nothing in a word exactly when each of its bits is 0 there. -/
theorem and_mask_eq_zero_iff {n : Nat} (w m : BitVec n) :
    w &&& m = 0 ↔ ∀ k, m.getLsbD k = true → w.getLsbD k = false := by
  constructor
  · intro h k hk
    have hb := congrArg (fun v => v.getLsbD k) h
    simpa [hk] using hb
  · intro h
    refine BitVec.eq_of_getLsbD_eq fun k _ => ?_
    cases hk : m.getLsbD k
    · simp [hk]
    · simp [h k hk]

/-- The constant bits of PSR are 3, 4 and 8 (10_state.md R28). -/
theorem psrConstantsOk_iff (psr : Word) :
    psrConstantsOk psr = true ↔ ∀ k ∈ [3, 4, 8], psr.getLsbD k = false := by
  have hmask : ∀ k, (0x0118#16).getLsbD k = true ↔ k ∈ [3, 4, 8] := fun k => by
    by_cases hk : k < 16
    · interval_cases k <;> decide
    · simp [BitVec.getLsbD_of_ge _ k (Nat.le_of_not_lt hk)]; omega
  simp only [psrConstantsOk, beq_iff_eq, and_mask_eq_zero_iff, hmask]

/-- The constant bits of ISP are bit 0 and those above 15 (10_state.md R37). -/
theorem ispOk_iff (isp : Addr) : ispOk isp = true ↔ ∀ k, k = 0 ∨ 16 ≤ k → isp.getLsbD k = false := by
  have hmask : ∀ k, (0x1F0001#21).getLsbD k = true ↔ (k = 0 ∨ 16 ≤ k) ∧ k < 21 := fun k => by
    by_cases hk : k < 21
    · interval_cases k <;> decide
    · simp [BitVec.getLsbD_of_ge _ k (Nat.le_of_not_lt hk), hk]
  simp only [ispOk, beq_iff_eq, and_mask_eq_zero_iff, hmask]
  refine ⟨fun h k hk => ?_, fun h k hk => h k hk.1⟩
  by_cases hlt : k < 21
  · exact h k ⟨hk, hlt⟩
  · exact BitVec.getLsbD_of_ge _ k (Nat.le_of_not_lt hlt)

/-- An even word is a value of ISP. -/
theorem ispOk_setWidth {w : Word} (h : w.getLsbD 0 = false) : ispOk (w.setWidth 21) = true := by
  refine (ispOk_iff _).2 fun k hk => ?_
  rw [BitVec.getLsbD_setWidth]
  obtain rfl | hk := hk
  · simpa using h
  · rw [BitVec.getLsbD_of_ge w k hk, Bool.and_false]

/-- Moving ISP by an even distance keeps its shape (92_eei_decisions.md D4). -/
theorem ispOk_stackAddr {isp : Addr} (h : ispOk isp = true) {d : Nat} (hd : d % 2 = 0) :
    ispOk (stackAddr isp d) = true := by
  have heven : isp.toNat % 2 = 0 := by
    have h0 := (ispOk_iff isp).1 h 0 (.inl rfl)
    rw [BitVec.getLsbD, Nat.testBit_zero] at h0
    simpa using h0
  have hword : stackAddr isp d = (BitVec.ofNat 16 (isp.toNat + d)).setWidth 21 := by
    apply BitVec.eq_of_toNat_eq
    simp only [stackAddr, BitVec.toNat_setWidth, BitVec.toNat_ofNat]
  rw [hword]
  refine ispOk_setWidth ?_
  rw [BitVec.getLsbD, BitVec.toNat_ofNat, Nat.testBit_zero]
  exact decide_eq_false (by omega)

/-- Writing a bit of PSR that is no constant keeps the constants. -/
theorem psrConstantsOk_withBit {psr : Word} (h : psrConstantsOk psr = true) {k : Nat} (hk : k ∉ [3, 4, 8])
    (b : Bool) : psrConstantsOk (withBit psr k b) = true := by
  rw [psrConstantsOk_iff] at h ⊢
  intro j hj
  have hjk : j ≠ k := fun e => hk (e ▸ hj)
  rw [getLsbD_withBit_ne psr b hjk, h j hj]

/-- An entry clears bits of PSR, and sets none (60_exceptions.md R265). -/
theorem psrConstantsOk_entry {psr : Word} (h : psrConstantsOk psr = true) (x : Exception) :
    psrConstantsOk (psrAfterSave x (psrToSave x psr)) = true := by
  rw [psrConstantsOk_iff] at h ⊢
  exact fun j hj => by rw [getLsbD_psrAfterSave, getLsbD_psrToSave, h j hj]; rfl

/-- Reserved bits from one word and defined bits from another: what LPR and RETX write (10_state.md R36). -/
theorem psrConstantsOk_defined (w v : Word) :
    psrConstantsOk ((w &&& 0xF000#16) ||| (v &&& psrDefined)) = true := by
  refine (psrConstantsOk_iff _).2 fun k hk => ?_
  have hw : (0xF000#16).getLsbD k = false := by revert k; decide
  have hv : psrDefined.getLsbD k = false := by revert k; decide
  simp [hw, hv]

/-! ### The invariant inside a step -/

/-- The invariant, and every byte the step has stored so far is at an address of the machine: what a reset
inside an instruction needs (70_reset_and_hazards.md R301; notes/assumptions/6.md). -/
structure State.StepInv (s : State) : Prop where
  inv : s.Inv
  written : ∀ n ∈ s.written, n < 2 ^ 21

/-- An update of other fields, or a read. -/
theorem State.StepInv.keep {s t : State} (h : s.StepInv) (hm : t.mem = s.mem := by simp)
    (hw : t.written = s.written := by simp) (hpc : t.pc = s.pc := by simp) (hisp : t.isp = s.isp := by simp)
    (hib : t.intbase = s.intbase := by simp) (hpsr : t.psr = s.psr := by simp) : t.StepInv :=
  ⟨⟨hm ▸ h.inv.memory, hpc ▸ h.inv.pcEven, hisp ▸ h.inv.ispShape, hib ▸ h.inv.intbaseEven,
    hpsr ▸ h.inv.psrShape⟩, hw ▸ h.written⟩

/-- Stores, which change memory and the record of it. -/
theorem State.StepInv.store {s t : State} {as : List Addr} (h : s.StepInv) (hr : StoresRecorded s t as)
    (hm : t.mem.wf = true) (hpc : t.pc = s.pc := by simp) (hisp : t.isp = s.isp := by simp)
    (hib : t.intbase = s.intbase := by simp) (hpsr : t.psr = s.psr := by simp) : t.StepInv :=
  ⟨⟨hm, hpc ▸ h.inv.pcEven, hisp ▸ h.inv.ispShape, hib ▸ h.inv.intbaseEven, hpsr ▸ h.inv.psrShape⟩,
    fun n hn => (hr.ram n hn).elim (h.written n) And.left⟩

theorem State.StepInv.writeByte {s : State} (h : s.StepInv) (a : Addr) (v : Byte) : (s.writeByte a v).StepInv :=
  h.store (storesRecorded_writeByte s a v) (wf_writeByte h.inv.memory a v)

theorem State.StepInv.writeWord {s : State} (h : s.StepInv) (a : Addr) (v : Word) : (s.writeWord a v).StepInv :=
  h.store (storesRecorded_writeWord s a v) (wf_writeWord h.inv.memory a v)

theorem State.StepInv.storeWords {s : State} (h : s.StepInv) (a : Word) (vs : List Word) :
    (s.storeWords a vs).StepInv :=
  h.store (storesRecorded_storeWords vs s a) (wf_storeWords vs a h.inv.memory)

theorem State.StepInv.setReg {s : State} (h : s.StepInv) (r : Reg) (v : Word) : (s.setReg r v).StepInv := h.keep

/-- Every write of PC clears bit 0 (00_scope.md R9). -/
theorem State.StepInv.setPc {s : State} (h : s.StepInv) (a : Addr) : (s.setPc a).StepInv :=
  ⟨⟨h.inv.memory, evenAddr_bit0 a, h.inv.ispShape, h.inv.intbaseEven, h.inv.psrShape⟩, h.written⟩

theorem State.StepInv.advance {s : State} (h : s.StepInv) (len : Addr) : (s.advance len).StepInv := h.setPc _

theorem State.StepInv.setOpState {s : State} (h : s.StepInv) (o : OpState) : (s.setOpState o).StepInv := h.keep

theorem State.StepInv.serialize {s : State} (h : s.StepInv) : s.serialize.StepInv := h.keep

theorem State.StepInv.setPsr {s : State} (h : s.StepInv) {v : Word} (hv : psrConstantsOk v = true) :
    (s.setPsr v).StepInv :=
  ⟨⟨h.inv.memory, h.inv.pcEven, h.inv.ispShape, h.inv.intbaseEven, hv⟩, h.written⟩

theorem State.StepInv.setFlag {s : State} (h : s.StepInv) {k : Nat} (b : Bool) (hk : k ∉ [3, 4, 8] := by decide) :
    (s.setFlag k b).StepInv := h.setPsr (psrConstantsOk_withBit h.inv.psrShape hk b)

theorem State.StepInv.setIsp {s : State} (h : s.StepInv) {a : Addr} (ha : ispOk a = true) : (s.setIsp a).StepInv :=
  ⟨⟨h.inv.memory, h.inv.pcEven, ha, h.inv.intbaseEven, h.inv.psrShape⟩, h.written⟩

theorem State.StepInv.setIntbase {s : State} (h : s.StepInv) {a : Addr} (ha : a.getLsbD 0 = false) :
    (s.setIntbase a).StepInv :=
  ⟨⟨h.inv.memory, h.inv.pcEven, h.inv.ispShape, ha, h.inv.psrShape⟩, h.written⟩

/-! ### The invariant under the operations that branch -/

theorem State.StepInv.shiftByte {s : State} (h : s.StepInv) (dest : Reg) (v : Option Byte) (len : Addr) :
    (s.shiftByte dest v len).StepInv := by
  cases v with
  | none => exact (h.keep : (s.drawByte.2.setRegByte dest s.drawByte.1).StepInv).advance len
  | some v => exact (h.keep : (s.setRegByte dest v).StepInv).advance len

theorem State.StepInv.shiftWord {s : State} (h : s.StepInv) (dest : Reg) (v : Option Word) (len : Addr) :
    (s.shiftWord dest v len).StepInv := by
  cases v with
  | none => exact (h.keep : (s.drawWord.2.setReg dest s.drawWord.1).StepInv).advance len
  | some v => exact (h.setReg dest v).advance len

theorem State.StepInv.testBit {s : State} (h : s.StepInv) (v pos : Word) (len : Addr) :
    (s.testBit v pos len).StepInv := by
  unfold State.testBit
  split
  · exact (h.setFlag _).advance len
  · exact ((h.keep : s.drawBit.2.StepInv).setFlag _).advance len

theorem State.StepInv.testByteAt {s : State} (h : s.StepInv) (ea : Addr) (pos : BitVec 4) (len : Addr) :
    (s.testByteAt ea pos len).StepInv := by
  unfold State.testByteAt
  split
  · exact ((h.keep : (s.readByte ea).2.StepInv).setFlag _).advance len
  · exact ((h.keep : (s.readByte ea).2.drawBit.2.StepInv).setFlag _).advance len

theorem State.StepInv.changeByteAt {s : State} (h : s.StepInv) (ea : Addr) (pos : BitVec 4) (b : Bool)
    (len : Addr) : (s.changeByteAt ea pos b len).StepInv := by
  unfold State.changeByteAt
  split
  · exact (((h.keep : (s.readByte ea).2.StepInv).setFlag _).writeByte _ _).advance len
  · exact (((h.keep : (s.readByte ea).2.drawBit.2.drawByte.2.StepInv).setFlag _).writeByte _ _).advance len

theorem State.StepInv.branch {s : State} (h : s.StepInv) (taken : Bool) (target len : Addr) :
    (s.branch taken target len).StepInv := by
  cases taken
  · exact h.advance len
  · exact h.setPc target

theorem State.StepInv.pushRun {s : State} (h : s.StepInv) (rcnt : BitVec 2) (r : Reg) :
    (s.pushRun rcnt r).StepInv := by
  unfold State.pushRun
  split
  · have hfree : (s.storeFree (s.reg Reg.sp - runBytes rcnt) (countOf rcnt)).StepInv :=
      h.store (storesRecorded_storeFree s _ _) (wf_storeFree h.inv.memory _ _)
    exact hfree.keep
  · exact (h.storeWords _ _).setReg _ _

theorem State.StepInv.popRun {s : State} (h : s.StepInv) (rcnt : BitVec 2) (r : Reg) :
    (s.popRun rcnt r).StepInv := by
  have hload : (s.loadRegs (s.reg Reg.sp) (runOf r rcnt)).StepInv := h.keep
  unfold State.popRun
  split
  · have hfree : ((s.loadRegs (s.reg Reg.sp) (runOf r rcnt)).freeWords (s.reg Reg.sp) (countOf rcnt)).StepInv :=
      hload.store (storesRecorded_freeWords _ _ _) (wf_freeWords _ _ hload.inv.memory)
    exact hfree.keep
  · exact hload.setReg _ _

theorem State.StepInv.popReturn {s : State} (h : s.StepInv) (reached : Bool) (target : Addr) :
    (s.popReturn reached target).StepInv := by
  cases reached
  · exact h.setPc target
  · exact (h.keep : s.drawAddr.2.StepInv).setPc _

/-- LPR to PSR writes the defined bits, and any value in the reserved ones (10_state.md R36). -/
theorem State.StepInv.writePsr {s : State} (h : s.StepInv) (v : Word) : (s.writePsr v).StepInv := by
  unfold State.writePsr
  split
  · exact h.setPsr (by simpa using psrConstantsOk_defined 0 v)
  · exact (h.keep : s.drawWord.2.StepInv).setPsr (psrConstantsOk_defined _ v)

/-- LPR to ISP and to INTBASEL clears bit 0; INTBASEH leaves it (45_procreg_loadstore_misc.md R222). -/
theorem State.StepInv.writeProc {s : State} (h : s.StepInv) (p : ProcReg) (v : Word) : (s.writeProc p v).StepInv := by
  cases p with
  | psr => exact h.writePsr v
  | intbaseL => exact h.setIntbase (by rw [BitVec.getLsbD_append]; simp)
  | intbaseH => exact h.setIntbase (by rw [BitVec.getLsbD_append]; simpa using h.inv.intbaseEven)
  | isp => exact h.setIsp (ispOk_setWidth (by simp))
  | cfg | dsr | dcr | carL | carH => exact h.keep rfl rfl rfl rfl rfl rfl

/-! ### The invariant under an exception entry and its return -/

/-- An entry moves ISP down by 4 and the PC to an even handler address (60_exceptions.md R262). -/
theorem State.StepInv.takeException {s : State} (h : s.StepInv) (x : Exception) (spc : Addr) :
    (s.takeException x spc).StepInv where
  inv :=
    { memory := wf_takeException h.inv.memory x spc
      pcEven := by rw [State.takeException_pc]; exact evenAddr_bit0 _
      ispShape := by rw [State.takeException_isp]; exact ispOk_stackAddr h.inv.ispShape (by decide)
      intbaseEven := by rw [State.takeException_intbase]; exact h.inv.intbaseEven
      psrShape := by rw [State.takeException_psr]; exact psrConstantsOk_entry h.inv.psrShape x }
  written n hn := ((storesRecorded_takeException s x spc).ram n hn).elim (h.written n) And.left

/-- A return moves ISP up by 4 and takes the defined bits of PSR from the frame (44_jumps_linkage.md R204). -/
theorem State.StepInv.returnFromException {s : State} (h : s.StepInv) : s.returnFromException.StepInv where
  inv :=
    { memory := by rw [State.returnFromException_mem]; exact h.inv.memory
      pcEven := evenAddr_bit0 _
      ispShape := by rw [State.returnFromException_isp]; exact ispOk_stackAddr h.inv.ispShape (by decide)
      intbaseEven := by rw [State.returnFromException_intbase]; exact h.inv.intbaseEven
      psrShape := psrConstantsOk_defined _ _ }
  written := by rw [State.returnFromException_written]; exact h.written

/-- A multiply completes, or is suspended by an exception entry (41_arithmetic.md R149). -/
theorem State.StepInv.multiply {s t : State} (h : s.StepInv) (ht : t.StepInv) : (s.multiply t).StepInv := by
  unfold State.multiply
  split
  · have hcleared : ((s.setFlag psrP false).setDbgPending false).StepInv := (h.setFlag (k := psrP) false).keep
    exact hcleared.takeException _ _
  · exact ht

/-! ### The invariant under an instruction -/

/-- Every shared operation an instruction runs keeps the invariant. -/
theorem ExecutesTo.stepInv {s t : State} (h : s.StepInv) (ht : ExecutesTo s t) : t.StepInv := by
  cases ht with
  | arithByte dest r len =>
    exact (((h.keep : (s.setRegByte dest r.value).StepInv).setFlag r.carry).setFlag r.overflow).advance len
  | arithWord dest r len => exact (((h.setReg dest r.value).setFlag r.carry).setFlag r.overflow).advance len
  | resultByte dest v len => exact (h.keep : (s.setRegByte dest v).StepInv).advance len
  | resultWord dest v len => exact (h.setReg dest v).advance len
  | resultPair dest p len => exact ((h.setReg _ _).setReg _ _).advance len
  | multiplyByte dest v len => exact h.multiply ((h.keep : (s.setRegByte dest v).StepInv).advance len)
  | multiplyWord dest v len => exact h.multiply ((h.setReg dest v).advance len)
  | multiplyPair dest p len => exact h.multiply (((h.setReg _ _).setReg _ _).advance len)
  | shiftByte dest v len => exact h.shiftByte dest v len
  | shiftWord dest v len => exact h.shiftWord dest v len
  | compareByte | compareWord => exact (((h.setFlag _).setFlag _).setFlag _).advance _
  | testBit v pos len => exact h.testBit v pos len
  | testByteAt ea pos len => exact h.testByteAt ea pos len
  | testWordAt ea pos len => exact ((h.keep : (s.readWord ea).2.StepInv).setFlag _).advance len
  | changeByteAt ea pos b len => exact h.changeByteAt ea pos b len
  | changeWordAt ea pos b len =>
    exact (((h.keep : (s.readWord ea).2.StepInv).setFlag _).writeWord _ _).advance len
  | branch taken target len => exact h.branch taken target len
  | jump target => exact h.setPc target
  | linkSmall link next target => exact (h.setReg _ _).setPc target
  | linkLarge link next target => exact ((h.setReg _ _).setReg _ _).setPc target
  | push rcnt src => exact (h.pushRun rcnt src).advance 2
  | pop rcnt dest => exact (h.popRun rcnt dest).advance 2
  | popReturn rcnt dest target => exact (h.popRun rcnt dest).popReturn _ target
  | loadByteInto dest ea len =>
    exact (h.keep : ((s.readByte ea).2.setRegByte dest (s.readByte ea).1).StepInv).advance len
  | loadWordInto dest ea len => exact ((h.keep : (s.readWord ea).2.StepInv).setReg dest _).advance len
  | storeByteAt ea v len => exact (h.writeByte ea v).advance len
  | storeWordAt ea v len => exact (h.writeWord ea v).advance len
  | loadMany rcnt =>
    exact ((h.keep : (s.loadRegs (s.reg 0) (regRun 2 (countOf rcnt))).StepInv).setReg _ _).advance 2
  | storeMany rcnt => exact ((h.storeWords _ _).setReg _ _).advance 2
  | writeProc p v => exact ((h.writeProc p v).advance 2).serialize
  | writeNoProc => exact (h.advance 2).serialize
  | readProc p dest => exact (((h.keep : (s.readProc p).2.StepInv).setReg dest _).advance 2).serialize
  | readNoProc dest => exact (((h.keep : s.drawWord.2.StepInv).setReg dest _).advance 2).serialize
  | nop => exact h.advance 2
  | setEnable b => exact (h.setFlag b).advance 2
  | wait => exact (h.advance 2).setOpState .waiting
  | enableWait => exact ((h.setFlag true).advance 2).setOpState .waiting
  | trap vector => exact h.takeException _ _
  | returnFromException => exact h.returnFromException

/-! ### The invariant under a step -/

theorem State.StepInv.beginInstruction {s : State} (h : s.StepInv) : s.beginInstruction.StepInv :=
  (h.setFlag (k := psrP) (s.flag psrT)).keep (t := s.beginInstruction) (hpsr := State.notePcMatch_psr _)

theorem State.StepInv.executeInstruction {s t : State} (h : s.StepInv) (ht : s.executeInstruction = .next t) :
    t.StepInv := by
  have hfetch : s.beginInstruction.fetch.2.StepInv := h.beginInstruction.keep
  obtain ⟨_, _, rfl⟩ | ⟨i, _, hi⟩ := State.executeInstruction_cases ht
  · exact hfetch.takeException _ _
  · exact (exec_executesTo hi).stepInv hfetch

theorem State.StepInv.coreStep {s t : State} (h : s.StepInv) (ht : s.coreStep = .next t) : t.StepInv := by
  obtain ⟨_, rfl⟩ | ⟨v, hv, hstep⟩ := State.coreStep_cases ht
  · exact h
  · have hvs : v.StepInv := by
      obtain rfl | rfl := hv
      · exact h
      · exact h.keep
    obtain ⟨x, rfl⟩ | hrun := hstep
    · exact hvs.takeException _ _
    · exact hvs.executeInstruction hrun

/-- A step begins with nothing stored. -/
theorem State.sample_written (s : State) : s.sample.written = [] := by
  unfold State.sample
  split <;> rfl

theorem State.Inv.sample {s : State} (h : s.Inv) : s.sample.StepInv where
  inv := ⟨by simpa using h.memory, by simpa using h.pcEven, by simpa using h.ispShape, by simpa using h.intbaseEven,
    by simpa using h.psrShape⟩
  written n hn := by simp [State.sample_written] at hn

/-- After a reset only memory rests on the state before it (70_reset_and_hazards.md R302). -/
theorem inv_resetInto {s : State} (h : s.mem.wf = true) (r0 r1 : Word) : (s.resetInto r0 r1).Inv where
  memory := h
  pcEven := by rw [State.resetInto_pc]; rfl
  ispShape := ispOk_setWidth (by simp)
  intbaseEven := evenAddr_bit0 _
  psrShape := (psrConstantsOk_iff _).2 fun k hk => by
    have hfree : (0xF000#16).getLsbD k = false := by revert k; decide
    have hset : (0x0200#16).getLsbD k = false := by revert k; decide
    simp [State.resetInto, hfree, hset]

theorem State.Inv.resetStep {s : State} (h : s.Inv) : s.resetStep.Inv := by
  unfold State.resetStep
  split
  · exact h
  · exact inv_resetInto h.memory _ _

theorem State.StepInv.resetDuring {s t : State} (h : t.StepInv) : (s.resetDuring t).Inv := by
  obtain ⟨_, e⟩ | ⟨_, e⟩ := State.resetDuring_cases s t <;> rw [e]
  · have hwf : (State.scrambleBytes t.written t).drawWord.2.mem.wf = true :=
      State.scrambleBytes_wf t.written h.written h.inv.memory
    exact inv_resetInto hwf _ _
  · exact inv_resetInto h.inv.memory _ _

/-- Settles O15, by the cases of a step; inside the step the record of stored bytes is part of the invariant. -/
theorem stepKeepsInvariant : Obligations.StepKeepsInvariant := by
  intro s t h ht
  obtain ⟨_, rfl⟩ | ⟨_, c, hc, rfl⟩ := step_cases ht
  · exact h.sample.inv.resetStep
  · have hcore : c.StepInv := h.sample.coreStep hc
    split
    · exact hcore.resetDuring
    · exact hcore.inv

end Sys2Proof.Machine
end

section
/-! SUPPORT. What an instruction other than LPR leaves as it was: PSR but for the bits its rule names, INTBASE,
CFG and CAR; of the debug unit the hardware only sets DSR bits and only clears DEN and EFB of DCR
(10_state.md R28, R38, R39, R41 to R43). Then the lock of DBGL under every step. -/

namespace Sys2Proof.Machine

/-! ### What the hardware does to the debug unit -/

/-- Bits of DSR are set and never cleared; of DCR only DEN and EFB change, and only to 0
(10_state.md R41, R42). -/
structure DebugUnit.Advances (u v : DebugUnit) : Prop where
  dsrSet : ∀ k, u.dsr.getLsbD k = true → v.dsr.getLsbD k = true
  dcrCleared : ∀ k, u.dcr.getLsbD k = false → v.dcr.getLsbD k = false
  dcrKept : ∀ k, k ≠ dcrDen → k ≠ dcrEfb → v.dcr.getLsbD k = u.dcr.getLsbD k

theorem DebugUnit.Advances.refl (u : DebugUnit) : u.Advances u := ⟨fun _ h => h, fun _ h => h, fun _ _ _ => rfl⟩

theorem DebugUnit.Advances.trans {u v w : DebugUnit} (h1 : u.Advances v) (h2 : v.Advances w) : u.Advances w :=
  ⟨fun k h => h2.dsrSet k (h1.dsrSet k h), fun k h => h2.dcrCleared k (h1.dcrCleared k h),
    fun k hd he => (h2.dcrKept k hd he).trans (h1.dcrKept k hd he)⟩

/-- A recorded match sets a bit of DSR and clears DEN (60_exceptions.md R281, R282). -/
theorem DebugUnit.Matched.advances {u v : DebugUnit} {st : Nat} (h : u.Matched v st) : u.Advances v := by
  obtain ⟨_, hdsr, hdcr⟩ := h
  exact ⟨fun k hk => by simp [hdsr, hk], fun k hk => by simp [hdcr, hk], fun k hd _ => by simp [hdcr, hd]⟩

/-- So do the accesses of a list: the first that hits is recorded (60_exceptions.md R281). -/
theorem DebugUnit.After.advances {car : Addr} {u v : DebugUnit} :
    ∀ {as : List Access}, u.After car v as → u.Advances v
  | [], h => by
    obtain rfl : v = u := h
    exact .refl v
  | a :: _, h => by
    by_cases hit : u.Hit car a
    · exact (h.1 hit).advances
    · exact (h.2 hit).advances

/-- Step 5 of an entry sets EXF and clears EFB (60_exceptions.md R283). -/
theorem DebugUnit.Settled.advances {x : Exception} {tag : Bool} {u v : DebugUnit} (h : u.Settled x tag v) :
    u.Advances v := by
  obtain ⟨hother, hdbg⟩ := h
  by_cases hx : x = .dbg
  · obtain ⟨_, hdsr, hdcr⟩ := hdbg hx
    exact ⟨fun k hk => by simp [hdsr, hk], fun k hk => by simp [hdcr, hk], fun k _ he => by simp [hdcr, he]⟩
  · rw [hother hx]
    exact .refl u

/-- The debug unit over an entry: the frame, step 5, the acknowledge read, the dispatch entry
(60_exceptions.md R262). -/
theorem State.takeException_advances (s : State) (x : Exception) (spc : Addr) :
    s.debugUnit.Advances (s.takeException x spc).debugUnit := by
  have hframe := (debugOfAccess_pushFrame (s.setPsr (psrToSave x s.psr)) spc).advances
  have hsettle := (settled_settleDebug (((s.setPsr (psrToSave x s.psr)).pushFrame spc).setPsr
    (psrAfterSave x ((s.setPsr (psrToSave x s.psr)).pushFrame spc).psr)) x).advances
  have hack := (debugOfAccess_acknowledge (s.saveContext x spc) x).advances
  have hread := (debugOfAccess_readHandler ((s.saveContext x spc).acknowledge x) x).advances
  exact ((hframe.trans hsettle).trans hack).trans hread

/-! ### What an operation keeps -/

/-- From s to t PSR keeps every bit but ks, INTBASE, CFG and CAR stay, and the debug unit changes as the
hardware changes it. -/
structure KeepsBut (ks : List Nat) (s t : State) : Prop where
  flags : FlagsBut s t ks
  intbase : t.intbase = s.intbase
  cfg : t.cfg = s.cfg
  car : t.car = s.car
  debugUnit : s.debugUnit.Advances t.debugUnit

theorem KeepsBut.refl (s : State) : KeepsBut [] s s := ⟨.refl s [], rfl, rfl, rfl, .refl _⟩

theorem KeepsBut.trans {s t u : State} {ks js : List Nat} (h1 : KeepsBut ks s t) (h2 : KeepsBut js t u) :
    KeepsBut (ks ++ js) s u :=
  ⟨(h1.flags.mono (List.subset_append_left ks js)).trans (h2.flags.mono (List.subset_append_right ks js)),
    h2.intbase.trans h1.intbase, h2.cfg.trans h1.cfg, h2.car.trans h1.car, h1.debugUnit.trans h2.debugUnit⟩

theorem KeepsBut.mono {s t : State} {ks js : List Nat} (h : KeepsBut ks s t) (hs : ks ⊆ js) : KeepsBut js s t :=
  ⟨h.flags.mono hs, h.intbase, h.cfg, h.car, h.debugUnit⟩

/-- Then an update of registers, PC, ISP, memory or the model's own fields. -/
theorem KeepsBut.other {s t u : State} {ks : List Nat} (h : KeepsBut ks s t) (hpsr : u.psr = t.psr := by simp)
    (hib : u.intbase = t.intbase := by simp) (hcfg : u.cfg = t.cfg := by simp) (hcar : u.car = t.car := by simp)
    (hdcr : u.dcr = t.dcr := by simp) (hdsr : u.dsr = t.dsr := by simp) : KeepsBut ks s u where
  flags := h.flags.trans (.of_psr hpsr ks)
  intbase := hib.trans h.intbase
  cfg := hcfg.trans h.cfg
  car := hcar.trans h.car
  debugUnit :=
    { dsrSet := fun k hk => by rw [State.debugUnit, hdsr]; exact h.debugUnit.dsrSet k hk
      dcrCleared := fun k hk => by rw [State.debugUnit, hdcr]; exact h.debugUnit.dcrCleared k hk
      dcrKept := fun k hd he => by rw [State.debugUnit, hdcr]; exact h.debugUnit.dcrKept k hd he }

/-- Then the accesses of a read or a store, which the debug unit compares (60_exceptions.md R281). -/
theorem KeepsBut.access {s t u : State} {ks : List Nat} {as : List Access} (h : KeepsBut ks s t)
    (ha : DebugOfAccess t u as) (hpsr : u.psr = t.psr := by simp) (hib : u.intbase = t.intbase := by simp)
    (hcfg : u.cfg = t.cfg := by simp) (hcar : u.car = t.car := by simp) : KeepsBut ks s u :=
  ⟨h.flags.trans (.of_psr hpsr ks), hib.trans h.intbase, hcfg.trans h.cfg, hcar.trans h.car,
    h.debugUnit.trans ha.advances⟩

/-- Then a write of one flag. -/
theorem KeepsBut.setFlag {s t : State} {ks : List Nat} (h : KeepsBut ks s t) (k : Nat) (b : Bool) :
    KeepsBut (ks ++ [k]) s (t.setFlag k b) :=
  h.trans ⟨flagsBut_setFlag t k b, rfl, rfl, rfl, .refl _⟩

theorem KeepsBut.advance {s t : State} {ks : List Nat} (h : KeepsBut ks s t) (len : Addr) :
    KeepsBut ks s (t.advance len) := h.other

theorem KeepsBut.setReg {s t : State} {ks : List Nat} (h : KeepsBut ks s t) (r : Reg) (v : Word) :
    KeepsBut ks s (t.setReg r v) := h.other

theorem KeepsBut.setRegByte {s t : State} {ks : List Nat} (h : KeepsBut ks s t) (r : Reg) (v : Byte) :
    KeepsBut ks s (t.setRegByte r v) := h.other

theorem KeepsBut.setPc {s t : State} {ks : List Nat} (h : KeepsBut ks s t) (a : Addr) :
    KeepsBut ks s (t.setPc a) := h.other

theorem KeepsBut.serialize {s t : State} {ks : List Nat} (h : KeepsBut ks s t) : KeepsBut ks s t.serialize := h.other

/-! ### Each shared operation -/

theorem keepsBut_arithByte (s : State) (dest : Reg) (r : Arith 8) (len : Addr) :
    KeepsBut [psrC, psrF] s (s.arithByte dest r len) :=
  ((((KeepsBut.refl s).setRegByte dest r.value).setFlag psrC r.carry).setFlag psrF r.overflow).advance len

theorem keepsBut_arithWord (s : State) (dest : Reg) (r : Arith 16) (len : Addr) :
    KeepsBut [psrC, psrF] s (s.arithWord dest r len) :=
  ((((KeepsBut.refl s).setReg dest r.value).setFlag psrC r.carry).setFlag psrF r.overflow).advance len

theorem keepsBut_resultByte (s : State) (dest : Reg) (v : Byte) (len : Addr) :
    KeepsBut [] s (s.resultByte dest v len) :=
  ((KeepsBut.refl s).setRegByte dest v).advance len

theorem keepsBut_resultWord (s : State) (dest : Reg) (v : Word) (len : Addr) :
    KeepsBut [] s (s.resultWord dest v len) :=
  ((KeepsBut.refl s).setReg dest v).advance len

theorem keepsBut_resultPair (s : State) (dest : Reg) (p : BitVec 32) (len : Addr) :
    KeepsBut [] s (s.resultPair dest p len) :=
  (((KeepsBut.refl s).setReg dest _).setReg (pairHigh dest) _).advance len

theorem keepsBut_shiftByte (s : State) (dest : Reg) (v : Option Byte) (len : Addr) :
    KeepsBut [] s (s.shiftByte dest v len) := by
  cases v with
  | none => exact ((KeepsBut.refl s).other : KeepsBut [] s s.drawByte.2).trans (keepsBut_resultByte _ dest _ len)
  | some v => exact keepsBut_resultByte s dest v len

theorem keepsBut_shiftWord (s : State) (dest : Reg) (v : Option Word) (len : Addr) :
    KeepsBut [] s (s.shiftWord dest v len) := by
  cases v with
  | none => exact ((KeepsBut.refl s).other : KeepsBut [] s s.drawWord.2).trans (keepsBut_resultWord _ dest _ len)
  | some v => exact keepsBut_resultWord s dest v len

theorem keepsBut_compare {n : Nat} (s : State) (a b : BitVec n) (len : Addr) :
    KeepsBut [psrZ, psrN, psrL] s (s.compare a b len) :=
  ((((KeepsBut.refl s).setFlag psrZ _).setFlag psrN _).setFlag psrL _).advance len

theorem keepsBut_testBit (s : State) (v pos : Word) (len : Addr) : KeepsBut [psrF] s (s.testBit v pos len) := by
  unfold State.testBit
  split
  · exact ((KeepsBut.refl s).setFlag psrF _).advance len
  · exact (((KeepsBut.refl s).other : KeepsBut [] s s.drawBit.2).setFlag psrF _).advance len

theorem keepsBut_testByteAt (s : State) (ea : Addr) (pos : BitVec 4) (len : Addr) :
    KeepsBut [psrF] s (s.testByteAt ea pos len) := by
  have hread : KeepsBut [] s (s.readByte ea).2 := (KeepsBut.refl s).access (debugOfAccess_readByte s ea)
  unfold State.testByteAt
  split
  · exact (hread.setFlag psrF _).advance len
  · exact ((hread.other : KeepsBut [] s (s.readByte ea).2.drawBit.2).setFlag psrF _).advance len

theorem keepsBut_testWordAt (s : State) (ea : Addr) (pos : BitVec 4) (len : Addr) :
    KeepsBut [psrF] s (s.testWordAt ea pos len) :=
  (((KeepsBut.refl s).access (debugOfAccess_readWord s ea)).setFlag psrF _).advance len

theorem keepsBut_changeByteAt (s : State) (ea : Addr) (pos : BitVec 4) (b : Bool) (len : Addr) :
    KeepsBut [psrF] s (s.changeByteAt ea pos b len) := by
  have hread : KeepsBut [] s (s.readByte ea).2 := (KeepsBut.refl s).access (debugOfAccess_readByte s ea)
  unfold State.changeByteAt
  split
  · exact ((hread.setFlag psrF _).access (debugOfAccess_writeByte _ ea _)).advance len
  · have hdraw : KeepsBut [] s (s.readByte ea).2.drawBit.2.drawByte.2 := hread.other
    exact ((hdraw.setFlag psrF _).access (debugOfAccess_writeByte _ ea _)).advance len

theorem keepsBut_changeWordAt (s : State) (ea : Addr) (pos : BitVec 4) (b : Bool) (len : Addr) :
    KeepsBut [psrF] s (s.changeWordAt ea pos b len) :=
  ((((KeepsBut.refl s).access (debugOfAccess_readWord s ea)).setFlag psrF _).access
    (debugOfAccess_writeWord _ ea _)).advance len

theorem keepsBut_branch (s : State) (taken : Bool) (target len : Addr) :
    KeepsBut [] s (s.branch taken target len) := by
  cases taken
  · exact (KeepsBut.refl s).advance len
  · exact (KeepsBut.refl s).setPc target

theorem keepsBut_pushRun (s : State) (rcnt : BitVec 2) (r : Reg) : KeepsBut [] s (s.pushRun rcnt r) := by
  unfold State.pushRun
  split
  · have hfree : KeepsBut [] s (s.storeFree (s.reg Reg.sp - runBytes rcnt) (countOf rcnt)) :=
      (KeepsBut.refl s).access (debugOfAccess_storeFree s _ _)
    exact hfree.other
  · exact ((KeepsBut.refl s).access (debugOfAccess_storeWords _ s _)).setReg _ _

theorem keepsBut_popRun (s : State) (rcnt : BitVec 2) (r : Reg) : KeepsBut [] s (s.popRun rcnt r) := by
  have hload : KeepsBut [] s (s.loadRegs (s.reg Reg.sp) (runOf r rcnt)) :=
    (KeepsBut.refl s).access (debugOfAccess_loadRegs _ s _)
  unfold State.popRun
  split
  · exact hload.other
  · exact hload.setReg _ _

theorem keepsBut_popReturn (s : State) (reached : Bool) (target : Addr) :
    KeepsBut [] s (s.popReturn reached target) := by
  cases reached
  · exact (KeepsBut.refl s).setPc target
  · exact ((KeepsBut.refl s).other : KeepsBut [] s s.drawAddr.2).setPc _

theorem keepsBut_loadByteInto (s : State) (dest : Reg) (ea len : Addr) :
    KeepsBut [] s (s.loadByteInto dest ea len) :=
  (((KeepsBut.refl s).access (debugOfAccess_readByte s ea)).setRegByte dest _).advance len

theorem keepsBut_loadWordInto (s : State) (dest : Reg) (ea len : Addr) :
    KeepsBut [] s (s.loadWordInto dest ea len) :=
  (((KeepsBut.refl s).access (debugOfAccess_readWord s ea)).setReg dest _).advance len

theorem keepsBut_storeByteAt (s : State) (ea : Addr) (v : Byte) (len : Addr) :
    KeepsBut [] s (s.storeByteAt ea v len) :=
  ((KeepsBut.refl s).access (debugOfAccess_writeByte s ea v)).advance len

theorem keepsBut_storeWordAt (s : State) (ea : Addr) (v : Word) (len : Addr) :
    KeepsBut [] s (s.storeWordAt ea v len) :=
  ((KeepsBut.refl s).access (debugOfAccess_writeWord s ea v)).advance len

/-- An entry changes the bits it clears; TRC saves P as 0, which it clears too (60_exceptions.md R265). -/
theorem keepsBut_takeException (s : State) (x : Exception) (spc : Addr) :
    KeepsBut (clearedAfter x) s (s.takeException x spc) where
  flags k hk := by
    have htrc : ¬ (x = .trc ∧ k = psrP) := by
      rintro ⟨rfl, rfl⟩
      exact hk (by decide)
    simp [State.flag, getLsbD_psrAfterSave, getLsbD_psrToSave, hk, htrc]
  intbase := s.takeException_intbase x spc
  cfg := s.takeException_cfg x spc
  car := s.takeException_car x spc
  debugUnit := s.takeException_advances x spc

/-- Any change of PSR lies within its sixteen bits. -/
theorem flagsBut_all (s t : State) : FlagsBut s t (List.range 16) := fun k hk => by
  have hge : 16 ≤ k := by simpa using hk
  rw [State.flag, State.flag, BitVec.getLsbD_of_ge _ k hge, BitVec.getLsbD_of_ge _ k hge]

theorem keepsBut_returnFromException (s : State) : KeepsBut (List.range 16) s s.returnFromException :=
  ⟨flagsBut_all _ _, s.returnFromException_intbase, s.returnFromException_cfg, s.returnFromException_car,
    (debugOfAccess_returnFromException s).advances⟩

/-- A suspended multiply clears P before its entry (60_exceptions.md R266). -/
theorem keepsBut_suspendMultiply (s : State) (x : Exception) :
    KeepsBut [psrI, psrP, psrT] s (s.suspendMultiply x) := by
  have hclear : KeepsBut [psrP] s ((s.setFlag psrP false).setDbgPending false) :=
    ((KeepsBut.refl s).setFlag psrP false).other
  refine (hclear.trans (keepsBut_takeException _ x s.pc)).mono ?_
  cases x <;> decide

/-! ### Each instruction -/

/-- The traps of EXCP clear P and T (60_exceptions.md R265). -/
theorem clearedAfter_excpTrap (vector : BitVec 4) : clearedAfter (excpTrap vector) = [psrP, psrT] := by
  revert vector; decide

/-- A jump through a pair that goes on is a branch. -/
theorem keepsBut_jumpPair {s t : State} {taken : Bool} {target : Reg} (h : s.jumpPair taken target = .next t) :
    KeepsBut [] s t := by
  unfold State.jumpPair at h
  split at h
  · cases h
  · cases h; exact keepsBut_branch _ _ _ _

theorem keepsBut_balLarge {s t : State} {link : Reg} {disp : BitVec 21}
    (h : execBalLarge link disp s = .next t) : KeepsBut [] s t := by
  unfold execBalLarge at h
  split at h
  · cases h
  · cases h; exact (((KeepsBut.refl s).setReg link _).setReg (pairHigh link) _).setPc _

theorem keepsBut_jalLarge {s t : State} {link target : Reg} (h : execJalLarge link target s = .next t) :
    KeepsBut [] s t := by
  unfold execJalLarge at h
  split at h
  · cases h
  · cases h; exact (((KeepsBut.refl s).setReg link _).setReg (pairHigh link) _).setPc _

theorem keepsBut_spr {s t : State} {rproc : BitVec 4} {dest : Reg} (h : execSpr rproc dest s = .next t) :
    KeepsBut [] s t := by
  unfold execSpr at h
  split at h <;> cases h
  · next p _ =>
    exact ((((KeepsBut.refl s).other : KeepsBut [] s (s.readProc p).2).setReg dest _).advance 2).serialize
  · exact ((((KeepsBut.refl s).other : KeepsBut [] s s.drawWord.2).setReg dest _).advance 2).serialize

/-- A multiply that answers a next state completes as a register write, or is suspended
(41_arithmetic.md R149). -/
theorem exec_eq_multiply {i : Instr} {s t : State} (hm : isMultiply i = true) (h : exec i s = .next t) :
    ∃ u, KeepsBut [] s u ∧ t = s.multiply u := by
  unfold isMultiply at hm
  split at hm
  case h_8 | h_9 =>
    obtain ⟨_, rfl⟩ := withPair_next h
    exact ⟨_, keepsBut_resultPair _ _ _ _, rfl⟩
  case h_1 | h_2 | h_3 => cases h; exact ⟨_, keepsBut_resultByte _ _ _ _, rfl⟩
  case h_4 | h_5 | h_6 | h_7 => cases h; exact ⟨_, keepsBut_resultWord _ _ _ _, rfl⟩
  case h_10 => cases hm

/-- Every instruction but LPR and the multiplies changes no PSR bit but those its rule names, and no special
register but as the hardware does. -/
theorem exec_keepsBut {i : Instr} {s t : State} (hl : ∀ src c, i ≠ .lpr src c) (hm : isMultiply i = false)
    (h : exec i s = .next t) : KeepsBut (flagsWritten i) s t := by
  cases i with
  | addbReg | addbImm5 | addbImm16 | addcbReg | addcbImm5 | addcbImm16 | subcbReg | subcbImm5 | subcbImm16
    | subbReg | subbImm5 | subbImm16 =>
    cases h; exact keepsBut_arithByte _ _ _ _
  | addwReg | addwImm5 | addwImm16 | addcwReg | addcwImm5 | addcwImm16 | subcwReg | subcwImm5 | subcwImm16
    | subwReg | subwImm5 | subwImm16 =>
    cases h; exact keepsBut_arithWord _ _ _ _
  | addubReg | addubImm5 | addubImm16 | xorbReg | xorbImm5 | xorbImm16 | andbReg | andbImm5 | andbImm16
    | movbReg | movbImm5 | movbImm16 | orbReg | orbImm5 | orbImm16 =>
    cases h; exact keepsBut_resultByte _ _ _ _
  | adduwReg | adduwImm5 | adduwImm16 | xorwReg | xorwImm5 | xorwImm16 | andwReg | andwImm5 | andwImm16
    | movwReg | movwImm5 | movwImm16 | orwReg | orwImm5 | orwImm16 | movxb | movzb | seq | sne | scs | scc | shi
    | sls | sgt | sle | sfs | sfc | slo | shs | slt | sge =>
    cases h; exact keepsBut_resultWord _ _ _ _
  | mulbReg | mulbImm5 | mulbImm16 | mulwReg | mulwImm5 | mulwImm16 | mulsb | mulsw | muluw => cases hm
  | ashubReg | ashubImm5 | ashubImm16 | lshbReg | lshbImm5 | lshbImm16 => cases h; exact keepsBut_shiftByte _ _ _ _
  | ashuwReg | ashuwImm5 | ashuwImm16 | lshwReg | lshwImm5 | lshwImm16 => cases h; exact keepsBut_shiftWord _ _ _ _
  | cmpbReg | cmpbImm5 | cmpbImm16 | cmpwReg | cmpwImm5 | cmpwImm16 => cases h; exact keepsBut_compare _ _ _ _
  | tbitReg | tbitImm5 | tbitImm16 => cases h; exact keepsBut_testBit _ _ _ _
  | tbitbBase | tbitbDisp16 | tbitbAbs => cases h; exact keepsBut_testByteAt _ _ _ _
  | tbitwBase | tbitwDisp16 | tbitwAbs => cases h; exact keepsBut_testWordAt _ _ _ _
  | cbitbBase | cbitbDisp16 | cbitbAbs | sbitbBase | sbitbDisp16 | sbitbAbs =>
    cases h; exact keepsBut_changeByteAt _ _ _ _ _
  | cbitwBase | cbitwDisp16 | cbitwAbs | sbitwBase | sbitwDisp16 | sbitwAbs =>
    cases h; exact keepsBut_changeWordAt _ _ _ _ _
  | beq0b | beq0w | beq1b | beq1w | bne0b | bne0w | bne1b | bne1w | beqDisp9 | beqDisp17 | beqDisp21
    | bneDisp9 | bneDisp17 | bneDisp21 | bcsDisp9 | bcsDisp17 | bcsDisp21 | bccDisp9 | bccDisp17 | bccDisp21
    | bhiDisp9 | bhiDisp17 | bhiDisp21 | blsDisp9 | blsDisp17 | blsDisp21 | bgtDisp9 | bgtDisp17 | bgtDisp21
    | bleDisp9 | bleDisp17 | bleDisp21 | bfsDisp9 | bfsDisp17 | bfsDisp21 | bfcDisp9 | bfcDisp17 | bfcDisp21
    | bloDisp9 | bloDisp17 | bloDisp21 | bhsDisp9 | bhsDisp17 | bhsDisp21 | bltDisp9 | bltDisp17 | bltDisp21
    | bgeDisp9 | bgeDisp17 | bgeDisp21 | jeqSmall | jneSmall | jcsSmall | jccSmall | jhiSmall | jlsSmall
    | jgtSmall | jleSmall | jfsSmall | jfcSmall | jloSmall | jhsSmall | jltSmall | jgeSmall =>
    cases h; exact keepsBut_branch _ _ _ _
  | jeqLarge | jneLarge | jcsLarge | jccLarge | jhiLarge | jlsLarge | jgtLarge | jleLarge | jfsLarge
    | jfcLarge | jloLarge | jhsLarge | jltLarge | jgeLarge | jumpLarge =>
    exact keepsBut_jumpPair h
  | brDisp9 | brDisp17 | brDisp21 | jumpSmall => cases h; exact (KeepsBut.refl s).setPc _
  | balSmall | jalSmall => cases h; exact ((KeepsBut.refl s).setReg _ _).setPc _
  | nop => cases h; exact (KeepsBut.refl s).advance 2
  | wait => cases h; exact ((KeepsBut.refl s).advance 2).other
  | balLarge => exact keepsBut_balLarge h
  | jalLarge => exact keepsBut_jalLarge h
  | movd => obtain ⟨_, rfl⟩ := withPair_next h; exact keepsBut_resultPair _ _ _ _
  | push => cases h; exact (keepsBut_pushRun _ _ _).advance 2
  | pop => cases h; exact (keepsBut_popRun _ _ _).advance 2
  | popretSmall | popretLarge => cases h; exact (keepsBut_popRun _ _ _).trans (keepsBut_popReturn _ _ _)
  | loadbDisp5 | loadbDisp18 | loadbFar | loadbAbs => cases h; exact keepsBut_loadByteInto _ _ _ _
  | loadwDisp5 | loadwDisp18 | loadwFar | loadwAbs => cases h; exact keepsBut_loadWordInto _ _ _ _
  | storbDisp5 | storbDisp18 | storbFar | storbAbs | storbImmBase | storbImmDisp16 | storbImmAbs =>
    cases h; exact keepsBut_storeByteAt _ _ _ _
  | storwDisp5 | storwDisp18 | storwFar | storwAbs | storwImmBase | storwImmDisp16 | storwImmAbs =>
    cases h; exact keepsBut_storeWordAt _ _ _ _
  | loadm => cases h; exact (((KeepsBut.refl s).access (debugOfAccess_loadRegs _ s _)).setReg _ _).advance 2
  | storm => cases h; exact (((KeepsBut.refl s).access (debugOfAccess_storeWords _ s _)).setReg _ _).advance 2
  | lpr src c => exact absurd rfl (hl src c)
  | spr => exact keepsBut_spr h
  | di | ei => cases h; exact ((KeepsBut.refl s).setFlag psrE _).advance 2
  | eiwait => cases h; exact (((KeepsBut.refl s).setFlag psrE true).advance 2).other
  | excp vector =>
    cases h
    have htrap := keepsBut_takeException s (excpTrap vector) s.pc
    rwa [clearedAfter_excpTrap] at htrap
  | retx => cases h; exact keepsBut_returnFromException s

/-- Every instruction but LPR, a suspended multiply too, changes the special registers only as the hardware does. -/
theorem exec_keepsSpecials {i : Instr} {s t : State} (hl : ∀ src c, i ≠ .lpr src c) (h : exec i s = .next t) :
    ∃ ks, KeepsBut ks s t := by
  cases hm : isMultiply i with
  | false => exact ⟨_, exec_keepsBut hl hm h⟩
  | true =>
    obtain ⟨u, hu, rfl⟩ := exec_eq_multiply hm h
    unfold State.multiply
    split
    · exact ⟨_, keepsBut_suspendMultiply s _⟩
    · exact ⟨_, hu⟩

/-- Settles O18, by the frame of every instruction but LPR. -/
theorem specialsOnlyByLpr : Obligations.SpecialsOnlyByLpr := by
  intro i s t hl h
  obtain ⟨_, hk⟩ := exec_keepsSpecials hl h
  exact ⟨hk.intbase, hk.cfg, hk.car, hk.debugUnit.dsrSet, hk.debugUnit.dcrCleared⟩

/-! ### PSR under LPR -/

/-- PSR is the register of code 1 alone (10_state.md R44). -/
theorem procRegOf_eq_psr {c : BitVec 4} (h : procRegOf c = some .psr) : c = 0b0001#4 := by
  revert c; decide

/-- LPR to another register leaves PSR. -/
theorem State.writeProc_psr_of_ne (s : State) {p : ProcReg} (v : Word) (h : p ≠ .psr) :
    (s.writeProc p v).psr = s.psr := by
  cases p with
  | psr => exact absurd rfl h
  | intbaseL | intbaseH | cfg | dsr | dcr | isp | carL | carH => rfl

theorem flagsWritten_lpr (src : Reg) (c : BitVec 4) :
    flagsWritten (.lpr src c) = if c = 0b0001#4 then List.range 16 else [] := rfl

/-- LPR changes PSR only where it names PSR (45_procreg_loadstore_misc.md R222). -/
theorem flagsBut_lpr {s t : State} {src : Reg} {c : BitVec 4} (h : exec (.lpr src c) s = .next t) :
    FlagsBut s t (flagsWritten (.lpr src c)) := by
  rw [flagsWritten_lpr]
  split
  · exact flagsBut_all s t
  · next hc =>
    change execLpr src c s = .next t at h
    unfold execLpr at h
    split at h <;> cases h
    · next p hp =>
      have hne : p ≠ .psr := fun e => hc (procRegOf_eq_psr (e ▸ hp))
      exact .of_psr (s.writeProc_psr_of_ne _ hne) []
    · exact .refl s []

/-- A multiply that an interrupt reaches is suspended (60_exceptions.md R266). -/
theorem State.multiply_suspended {s : State} (h : s.interruptsMultiply) (t : State) :
    ∃ x, s.multiply t = s.suspendMultiply x := by
  obtain ⟨x, hx⟩ := Option.ne_none_iff_exists'.1 h
  exact ⟨x, by unfold State.multiply; rw [hx]⟩

/-- Settles O17: LPR, a multiply that completes or is suspended, and every other instruction. -/
theorem flagsOnlyWhereSpecified : Obligations.FlagsOnlyWhereSpecified := by
  intro i s t h
  constructor
  · rintro ⟨hm, hint⟩
    obtain ⟨u, _, rfl⟩ := exec_eq_multiply hm h
    obtain ⟨x, hx⟩ := s.multiply_suspended hint u
    rw [hx]
    exact (keepsBut_suspendMultiply s x).flags
  · intro hns
    cases hm : isMultiply i with
    | true =>
      obtain ⟨u, hu, rfl⟩ := exec_eq_multiply hm h
      rw [State.multiply_completes fun hint => hns ⟨hm, hint⟩]
      exact hu.flags.mono (List.nil_subset _)
    | false =>
      by_cases hl : ∃ src c, i = .lpr src c
      · obtain ⟨src, c, rfl⟩ := hl
        exact flagsBut_lpr h
      · exact (exec_keepsBut (fun src c e => hl ⟨src, c, e⟩) hm h).flags

/-! ### The lock of DBGL (10_state.md R41) -/

/-- The bits DBGL locks, DBGL among them. -/
def lockedBits : List Nat := [dcrAbpt, dcrAtrc, dcrAdbg, dcrAise, dcrDbgl]

/-- Where DBGL is 1 in s, it and the bits it locks are the same in t. -/
def LockKept (s t : State) : Prop :=
  s.dcr.getLsbD dcrDbgl = true → ∀ k ∈ lockedBits, t.dcr.getLsbD k = s.dcr.getLsbD k

theorem LockKept.of_dcr {s t : State} (h : t.dcr = s.dcr) : LockKept s t := fun _ _ _ => by rw [h]

theorem LockKept.trans {s t u : State} (h1 : LockKept s t) (h2 : LockKept t u) : LockKept s u := fun hs k hk =>
  have ht : t.dcr.getLsbD dcrDbgl = true := (h1 hs dcrDbgl (by decide)).trans hs
  (h2 ht k hk).trans (h1 hs k hk)

/-- The hardware changes DEN and EFB only, which DBGL does not lock. -/
theorem DebugUnit.Advances.lockKept {s t : State} (h : s.debugUnit.Advances t.debugUnit) : LockKept s t :=
  fun _ k hk => h.dcrKept k (fun e => by subst e; revert hk; decide) (fun e => by subst e; revert hk; decide)

/-- An LPR to DCR cannot change a locked bit (45_procreg_loadstore_misc.md R222). -/
theorem lockKept_writeProc (s : State) (p : ProcReg) (v : Word) : LockKept s (s.writeProc p v) := by
  cases p with
  | dcr =>
    intro hs k hk
    have hmask : (dcrDefined &&& ~~~dcrLocked).getLsbD k = false := by revert k; decide
    have hlt : k < 16 := by revert k; decide
    simp only [State.writeProc, State.setDcr_dcr, maskedWrite, dcrWritable, hs, if_true, BitVec.getLsbD_or,
      BitVec.getLsbD_and, BitVec.getLsbD_not, hmask, hlt]
    simp
  | psr => exact .of_dcr (s.writePsr_dcr v)
  | intbaseL | intbaseH | cfg | dsr | isp | carL | carH => exact .of_dcr rfl

theorem exec_lockKept {i : Instr} {s t : State} (h : exec i s = .next t) : LockKept s t := by
  by_cases hl : ∃ src c, i = .lpr src c
  · obtain ⟨src, c, rfl⟩ := hl
    change execLpr src c s = .next t at h
    unfold execLpr at h
    split at h <;> cases h
    · exact (lockKept_writeProc s _ _).trans (.of_dcr rfl)
    · exact .of_dcr rfl
  · obtain ⟨_, hk⟩ := exec_keepsSpecials (fun src c e => hl ⟨src, c, e⟩) h
    exact hk.debugUnit.lockKept

/-- The PC match at the start of an instruction clears DEN (60_exceptions.md R282). -/
theorem State.beginInstruction_lockKept (s : State) : LockKept s s.beginInstruction := by
  have hmatch : s.debugUnit.Matched ((s.setFlag psrP (s.flag psrT)).recordMatch dsrBpc).debugUnit dsrBpc :=
    State.recordMatch_spec _ (by decide)
  unfold State.beginInstruction State.notePcMatch
  split
  · exact hmatch.advances.lockKept
  · exact .of_dcr rfl

theorem State.executeInstruction_lockKept {s t : State} (h : s.executeInstruction = .next t) : LockKept s t := by
  have hfetch : LockKept s s.beginInstruction.fetch.2 :=
    s.beginInstruction_lockKept.trans (.of_dcr (State.fetch_dcr _))
  obtain ⟨_, _, rfl⟩ | ⟨i, _, hi⟩ := State.executeInstruction_cases h
  · exact hfetch.trans (State.takeException_advances _ _ _).lockKept
  · exact hfetch.trans (exec_lockKept hi)

theorem State.coreStep_lockKept {s t : State} (h : s.coreStep = .next t) : LockKept s t := by
  obtain ⟨_, rfl⟩ | ⟨v, hv, hstep⟩ := State.coreStep_cases h
  · exact .of_dcr rfl
  · have hvs : LockKept s v := .of_dcr (by obtain rfl | rfl := hv <;> rfl)
    obtain ⟨x, rfl⟩ | hrun := hstep
    · exact hvs.trans (State.takeException_advances _ _ _).lockKept
    · exact hvs.trans (State.executeInstruction_lockKept hrun)

/-- Settles O16: without a reset a step is a step of the core, and none of its operations changes a locked bit. -/
theorem debugLockKept : Obligations.DebugLockKept := by
  intro s t hlock hreset hstep
  obtain ⟨hres, hinside⟩ := hreset
  obtain ⟨hr, _⟩ | ⟨_, c, hc, rfl⟩ := step_cases hstep
  · rw [hres] at hr
    cases hr
  · rw [hinside]
    exact (LockKept.of_dcr s.sample_dcr).trans (State.coreStep_lockKept hc) hlock

end Sys2Proof.Machine
end

section
/-! SUPPORT. LPR and SPR of the codes 10_state.md R44 leaves unassigned, and the state after reset (R55). -/

namespace Sys2Proof.Machine

/-! ### Unassigned processor-register codes -/

/-- The seven unassigned codes (10_state.md R44). -/
theorem procRegOf_unassigned {c : BitVec 4} (h : c ∈ [0, 2, 6, 8, 10, 12, 15]) : procRegOf c = none := by
  revert c; decide

/-- LPR of an unassigned code advances and serializes (notes/assumptions/19.md). -/
theorem exec_lpr_unassigned {c : BitVec 4} (h : procRegOf c = none) (src : Reg) (s : State) :
    exec (.lpr src c) s = .next (s.advance 2).serialize := by
  change execLpr src c s = _
  unfold execLpr
  rw [h]

/-- SPR of an unassigned code writes a free word (notes/assumptions/19.md). -/
theorem exec_spr_unassigned {c : BitVec 4} (h : procRegOf c = none) (dest : Reg) (s : State) :
    exec (.spr c dest) s = .next (s.drawWord.2.resultWord dest s.drawWord.1 2).serialize := by
  change execSpr c dest s = _
  unfold execSpr
  rw [h]

/-- Settles O52: both instructions run only updates of registers, PC, marks and the count of free values. -/
theorem unassignedProcCodes : Obligations.UnassignedProcCodes := by
  intro s r d c hc
  have hnone := procRegOf_unassigned hc
  constructor
  · rw [exec_lpr_unassigned hnone]
    exact ⟨_, rfl, rfl, .refl s [], pcAfter_advance s rfl 2, ⟨.of_mem rfl [], rfl, rfl, rfl, rfl, rfl⟩, rfl⟩
  · unfold SprEffect
    rw [exec_spr_unassigned hnone]
    exact ⟨_, rfl, trivial, regsBut_setReg s.drawWord.2 d _, rfl, pcAfter_advance s rfl 2,
      ⟨.of_mem rfl [], rfl, rfl, rfl, rfl, rfl⟩, rfl⟩

/-! ### The state after reset -/

/-- Settles O14, field by field; memory is empty. -/
theorem resetInvariant : Obligations.ResetInvariant where
  memory := wf_reset
  pcEven := rfl
  ispShape := rfl
  intbaseEven := rfl
  psrShape := rfl

/-- Settles O13; the constant bits are those of the invariant, the rest are the values of State.reset. -/
theorem resetState : Obligations.ResetState :=
  ⟨rfl, rfl, rfl, rfl, rfl, rfl, resetInvariant.ispShape, resetInvariant.intbaseEven, resetInvariant.psrShape, rfl,
    rfl⟩

end Sys2Proof.Machine
end

section
/-! SUPPORT. MemRead and MemWrite of bytes and words, and the fetch of a word over bytes recently stored to
(20_memory.md R63, R64, R70, R77; 92_eei_decisions.md D3, D5, D6). -/

namespace Sys2Proof.Machine

/-! ### A word stored is read back -/

theorem ramWord_of_platform {s t : State} (h : t.platform = s.platform) (a : Addr) :
    t.ramWord a ↔ s.ramWord a := by
  rw [State.ramWord, State.ramWord, State.isRam_of_platform h, State.isRam_of_platform h]

theorem State.ramWord.storedWord {s : State} {a : Addr} (h : s.ramWord a) : s.storedWord a :=
  ⟨.inl h.1, .inl h.2⟩

/-- In canonical memory MemRead gives back the word MemWrite stored, where RAM stands under both bytes
(20_memory.md R63, R64). -/
theorem readWord_writeWord {s : State} (h : s.mem.wf = true) {a : Addr} (hr : s.ramWord a) (v : Word) :
    ((s.writeWord a v).readWord a).1 = v := by
  have hram : (s.writeWord a v).ramWord a := (ramWord_of_platform (by simp) a).2 hr
  apply BitVec.eq_of_toNat_eq
  rw [State.readWord_stored hram.storedWord, (wordStored_writeWord h a v).wordAt hr]

/-- Settles O21, by the rules of a stored byte and of a stored word. -/
theorem wordReadAndWrite : Obligations.WordReadAndWrite := by
  intro s a h
  exact ⟨fun v => ⟨byteStored_writeByte h a v, memoryBut_writeByte s a v⟩,
    fun v => ⟨wordStored_writeWord h a v, memoryBut_writeWord s a v, BitVec.toNat_add a 1,
      fun hr => readWord_writeWord h hr v⟩⟩

/-! ### The fetch of a marked word (20_memory.md R77) -/

/-- What an old fetch delivers at an address: the marked contents, or those of memory where nothing is marked
(92_eei_decisions.md D6). -/
def State.oldByteAt (s : State) (a : Addr) : Byte := (markOf s.stale a.toNat).getD (s.byteAt a)

/-- Where RAM or ROM stands, the fetch of a byte delivers its old or its present contents and changes nothing. -/
theorem State.fetchByte_stored {s : State} {a : Addr} (h : s.isStored a) (old : Bool) :
    s.fetchByte old a = (if old then s.oldByteAt a else s.byteAt a, s) := by
  unfold State.fetchByte State.oldByteAt
  cases old with
  | false => exact State.loadByte_stored h
  | true =>
    cases markOf s.stale a.toNat with
    | none => exact State.loadByte_stored h
    | some b => rfl

/-- One choice decides both bytes of a fetched word (notes/assumptions/9.md). -/
theorem State.fetchWord_stored {s : State} {a : Addr} (h : s.storedWord a) :
    (s.fetchWord a).1 = if (s.fetchChoice a).1 then wordOfBytes (s.oldByteAt a) (s.oldByteAt (a + 1))
      else wordOfBytes (s.byteAt a) (s.byteAt (a + 1)) := by
  obtain ⟨hlo, hhi⟩ := (storedWord_of_platform (s.fetchChoice_platform a) a).2 h
  have hbyte : ∀ x, (s.fetchChoice a).2.byteAt x = s.byteAt x := State.byteAt_of_mem (s.fetchChoice_mem a)
  have hold : ∀ x, (s.fetchChoice a).2.oldByteAt x = s.oldByteAt x := fun x => by
    rw [State.oldByteAt, State.fetchChoice_stale, hbyte, State.oldByteAt]
  unfold State.fetchWord
  simp only [State.fetchByte_stored hlo, State.fetchByte_stored hhi, hbyte, hold]
  split <;> rfl

/-- Settles O10: a word without a mark is fetched unchanged, and the one choice gives all old or all present
bytes. -/
theorem fetchOldOrNew : Obligations.FetchOldOrNew := by
  intro s a h
  refine ⟨fun hlo hhi => ?_, ?_⟩
  · rw [State.fetchWord_unmarked h hlo hhi]
    exact ⟨toNat_wordOfBytes _ _, rfl⟩
  · rw [State.fetchWord_stored h]
    cases (s.fetchChoice a).1 with
    | false => exact .inl (toNat_wordOfBytes _ _)
    | true => exact .inr (toNat_wordOfBytes _ _)

end Sys2Proof.Machine
end

section
/-! SUPPORT. Where an instruction stores: from s to t only bytes of a list may change, and the record of stored
bytes grows by addresses of the list in RAM only (20_memory.md R61, R64, R70; notes/assumptions/6.md). Each
shared operation is given its list; that of an instruction is storedBytes. -/

namespace Sys2Proof.Machine

/-! ### Stores within a list of addresses -/

/-- From s to t the stores lie within the list: no other byte of memory changes, and each store is recorded. -/
structure StoresWithin (as : List Addr) (s t : State) : Prop where
  memory : MemoryBut s t as
  record : StoresRecorded s t as

theorem StoresWithin.trans {as bs : List Addr} {s t u : State} (h1 : StoresWithin as s t)
    (h2 : StoresWithin bs t u) : StoresWithin (as ++ bs) s u :=
  ⟨h1.memory.trans h2.memory, h1.record.trans h2.record⟩

/-- A read, or an update of registers, PC, PSR or the other fields: nothing is stored. -/
theorem storesNothing {s t : State} (hm : t.mem = s.mem := by simp) (hw : t.written = s.written := by simp)
    (hp : t.platform = s.platform := by simp) : StoresWithin [] s t := ⟨.of_mem hm [], .of_eq hm hw hp⟩

/-- Then an operation that stores nothing. -/
theorem StoresWithin.other {as : List Addr} {s t u : State} (h : StoresWithin as s t)
    (hm : u.mem = t.mem := by simp) (hw : u.written = t.written := by simp)
    (hp : u.platform = t.platform := by simp) : StoresWithin as s u := by
  have hu := h.trans (storesNothing hm hw hp)
  rwa [List.append_nil] at hu

section
variable {as : List Addr} {s t : State}

theorem StoresWithin.setReg (h : StoresWithin as s t) (r : Reg) (v : Word) : StoresWithin as s (t.setReg r v) :=
  h.other

theorem StoresWithin.setRegByte (h : StoresWithin as s t) (r : Reg) (v : Byte) :
    StoresWithin as s (t.setRegByte r v) := h.other

theorem StoresWithin.setFlag (h : StoresWithin as s t) (k : Nat) (b : Bool) :
    StoresWithin as s (t.setFlag k b) := h.other

theorem StoresWithin.advance (h : StoresWithin as s t) (len : Addr) : StoresWithin as s (t.advance len) := h.other

theorem StoresWithin.serialize (h : StoresWithin as s t) : StoresWithin as s t.serialize := h.other

/-- The jump of POPRET stores nothing (44_jumps_linkage.md R208, R209). -/
theorem StoresWithin.popReturn (h : StoresWithin as s t) (reached : Bool) (target : Addr) :
    StoresWithin as s (t.popReturn reached target) := by
  cases reached
  · exact h.other rfl rfl rfl
  · exact h.other rfl rfl rfl

end

/-! ### Operations that store -/

theorem storesWithin_writeByte (s : State) (a : Addr) (v : Byte) : StoresWithin [a] s (s.writeByte a v) :=
  ⟨memoryBut_writeByte s a v, storesRecorded_writeByte s a v⟩

theorem storesWithin_writeWord (s : State) (a : Addr) (v : Word) :
    StoresWithin (wordBytes a) s (s.writeWord a v) :=
  ⟨memoryBut_writeWord s a v, storesRecorded_writeWord s a v⟩

theorem storesWithin_storeByteAt (s : State) (ea : Addr) (v : Byte) (len : Addr) :
    StoresWithin [ea] s (s.storeByteAt ea v len) := (storesWithin_writeByte s ea v).advance len

theorem storesWithin_storeWordAt (s : State) (ea : Addr) (v : Word) (len : Addr) :
    StoresWithin (wordBytes ea) s (s.storeWordAt ea v len) := (storesWithin_writeWord s ea v).advance len

/-- SBITB and CBITB read and write one byte, at the positions 8 to 15 too (43_bits.md R180, R182). -/
theorem storesWithin_changeByteAt (s : State) (ea : Addr) (pos : BitVec 4) (b : Bool) (len : Addr) :
    StoresWithin [ea] s (s.changeByteAt ea pos b len) := by
  have hread : StoresWithin [] s (s.readByte ea).2 := storesNothing
  unfold State.changeByteAt
  split
  · exact ((hread.setFlag psrF _).trans (storesWithin_writeByte _ ea _)).advance len
  · have hdraw : StoresWithin [] s (s.readByte ea).2.drawBit.2.drawByte.2 := storesNothing
    exact ((hdraw.setFlag psrF _).trans (storesWithin_writeByte _ ea _)).advance len

theorem storesWithin_changeWordAt (s : State) (ea : Addr) (pos : BitVec 4) (b : Bool) (len : Addr) :
    StoresWithin (wordBytes ea) s (s.changeWordAt ea pos b len) := by
  have hread : StoresWithin [] s (s.readWord ea).2 := storesNothing
  exact ((hread.setFlag psrF _).trans (storesWithin_writeWord _ ea _)).advance len

theorem storesWithin_storeWords (s : State) (a : Word) (vs : List Word) :
    StoresWithin (stackBytes a vs.length) s (s.storeWords a vs) :=
  ⟨memoryBut_storeWords vs s a, storesRecorded_storeWords vs s a⟩

/-- Storing the registers of a run that ends at R15 or below (44_jumps_linkage.md R205). -/
theorem storesWithin_storeRun (s : State) (a : Word) {r n : Nat} (h : r + n ≤ 16) :
    StoresWithin (stackBytes a n) s (s.storeWords a ((regRun r n).map s.reg)) := by
  have hw := storesWithin_storeWords s a ((regRun r n).map s.reg)
  rwa [List.length_map, length_regRun n r h] at hw

/-- PUSH stores the words below SP, free ones where its run reaches R15 (44_jumps_linkage.md R206;
93_implementation_defined.md U12). -/
theorem storesWithin_pushRun (s : State) (c : BitVec 2) (r : Reg) :
    StoresWithin (stackBytes (s.reg Reg.sp - runBytes c) (countOf c)) s (s.pushRun c r) := by
  unfold State.pushRun
  split
  · have hfree : StoresWithin _ s (s.storeFree (s.reg Reg.sp - runBytes c) (countOf c)) :=
      ⟨memoryBut_storeFree s _ _, storesRecorded_storeFree s _ _⟩
    exact hfree.other
  · next hr =>
    have hrun : r.val + countOf c ≤ 16 := by
      simp only [reachesSp, decide_eq_true_eq] at hr
      simp only [countOf]
      omega
    exact (storesWithin_storeRun s _ hrun).setReg _ _

/-- POP stores nothing but the free bytes of a run that reaches R15 (93_implementation_defined.md U12). -/
theorem storesWithin_popRun (s : State) (c : BitVec 2) (r : Reg) :
    StoresWithin (openStack s c r) s (s.popRun c r) := by
  have hload : StoresWithin [] s (s.loadRegs (s.reg Reg.sp) (runOf r c)) := storesNothing
  unfold State.popRun openStack
  simp only [reachesSp, decide_eq_true_eq]
  split
  · have hfree : StoresWithin (stackBytes (s.reg Reg.sp) (countOf c)) (s.loadRegs (s.reg Reg.sp) (runOf r c))
        ((s.loadRegs (s.reg Reg.sp) (runOf r c)).freeWords (s.reg Reg.sp) (countOf c)) :=
      ⟨memoryBut_freeWords _ _ _, storesRecorded_freeWords _ _ _⟩
    exact (hload.trans hfree).other
  · exact hload.setReg _ _

/-- An entry stores its frame (60_exceptions.md R262). -/
theorem storesWithin_takeException (s : State) (x : Exception) (spc : Addr) :
    StoresWithin (frameBytes s) s (s.takeException x spc) where
  memory a ha := by
    rw [State.byteAt_of_mem (s.takeException_mem x spc)]
    exact memoryBut_pushFrame (s.setPsr (psrToSave x s.psr)) spc a ha
  record := storesRecorded_takeException s x spc

theorem storesWithin_suspendMultiply (s : State) (x : Exception) :
    StoresWithin (frameBytes s) s (s.suspendMultiply x) := by
  have hclear : StoresWithin [] s ((s.setFlag psrP false).setDbgPending false) := storesNothing
  exact hclear.trans (storesWithin_takeException ((s.setFlag psrP false).setDbgPending false) x s.pc)

/-- A multiply stores the frame where an interrupt suspends it, else nothing (60_exceptions.md R266). -/
theorem storesWithin_multiply {s t : State} (h : StoresWithin [] s t) :
    StoresWithin (if (s.acceptedInterrupt s.pins.duringMul).isSome then frameBytes s else []) s
      (s.multiply t) := by
  unfold State.multiply
  cases s.acceptedInterrupt s.pins.duringMul with
  | none => exact h
  | some x => exact storesWithin_suspendMultiply s x

/-! ### Operations that store nothing -/

theorem storesNothing_resultByte (s : State) (dest : Reg) (v : Byte) (len : Addr) :
    StoresWithin [] s (s.resultByte dest v len) := storesNothing rfl rfl rfl

theorem storesNothing_resultWord (s : State) (dest : Reg) (v : Word) (len : Addr) :
    StoresWithin [] s (s.resultWord dest v len) := storesNothing rfl rfl rfl

theorem storesNothing_resultPair (s : State) (dest : Reg) (p : BitVec 32) (len : Addr) :
    StoresWithin [] s (s.resultPair dest p len) := storesNothing rfl rfl rfl

theorem storesNothing_shiftByte (s : State) (dest : Reg) (v : Option Byte) (len : Addr) :
    StoresWithin [] s (s.shiftByte dest v len) := by
  cases v with
  | none => exact ((storesNothing : StoresWithin [] s s.drawByte.2).setRegByte dest _).advance len
  | some v => exact storesNothing_resultByte s dest v len

theorem storesNothing_shiftWord (s : State) (dest : Reg) (v : Option Word) (len : Addr) :
    StoresWithin [] s (s.shiftWord dest v len) := by
  cases v with
  | none => exact ((storesNothing : StoresWithin [] s s.drawWord.2).setReg dest _).advance len
  | some v => exact storesNothing_resultWord s dest v len

theorem storesNothing_testBit (s : State) (v pos : Word) (len : Addr) :
    StoresWithin [] s (s.testBit v pos len) := by
  unfold State.testBit
  split
  · exact storesNothing
  · exact storesNothing

theorem storesNothing_testByteAt (s : State) (ea : Addr) (pos : BitVec 4) (len : Addr) :
    StoresWithin [] s (s.testByteAt ea pos len) := by
  unfold State.testByteAt
  split
  · exact storesNothing
  · exact storesNothing

theorem storesNothing_testWordAt (s : State) (ea : Addr) (pos : BitVec 4) (len : Addr) :
    StoresWithin [] s (s.testWordAt ea pos len) :=
  ((storesNothing : StoresWithin [] s (s.readWord ea).2).setFlag psrF _).advance len

theorem storesNothing_loadByteInto (s : State) (dest : Reg) (ea len : Addr) :
    StoresWithin [] s (s.loadByteInto dest ea len) :=
  ((storesNothing : StoresWithin [] s (s.readByte ea).2).setRegByte dest _).advance len

theorem storesNothing_loadWordInto (s : State) (dest : Reg) (ea len : Addr) :
    StoresWithin [] s (s.loadWordInto dest ea len) :=
  ((storesNothing : StoresWithin [] s (s.readWord ea).2).setReg dest _).advance len

theorem storesNothing_branch (s : State) (taken : Bool) (target len : Addr) :
    StoresWithin [] s (s.branch taken target len) := by
  cases taken
  · exact storesNothing rfl rfl rfl
  · exact storesNothing rfl rfl rfl

/-- A jump through a pair that goes on is a branch (44_jumps_linkage.md R199). -/
theorem storesNothing_jumpPair {s t : State} {taken : Bool} {target : Reg} (h : s.jumpPair taken target = .next t) :
    StoresWithin [] s t := by
  unfold State.jumpPair at h
  split at h
  · cases h
  · cases h; exact storesNothing_branch s taken _ 2

theorem storesNothing_balLarge {s t : State} {link : Reg} {disp : BitVec 21}
    (h : execBalLarge link disp s = .next t) : StoresWithin [] s t := by
  unfold execBalLarge at h
  split at h
  · cases h
  · cases h; exact storesNothing rfl rfl rfl

theorem storesNothing_jalLarge {s t : State} {link target : Reg} (h : execJalLarge link target s = .next t) :
    StoresWithin [] s t := by
  unfold execJalLarge at h
  split at h
  · cases h
  · cases h; exact storesNothing rfl rfl rfl

theorem storesNothing_lpr {s t : State} {src : Reg} {c : BitVec 4} (h : execLpr src c s = .next t) :
    StoresWithin [] s t := by
  unfold execLpr at h
  split at h <;> cases h
  · exact storesNothing
  · exact storesNothing

theorem storesNothing_spr {s t : State} {c : BitVec 4} {dest : Reg} (h : execSpr c dest s = .next t) :
    StoresWithin [] s t := by
  unfold execSpr at h
  split at h <;> cases h
  · next p _ => exact (((storesNothing : StoresWithin [] s (s.readProc p).2).setReg dest _).advance 2).serialize
  · exact (((storesNothing : StoresWithin [] s s.drawWord.2).setReg dest _).advance 2).serialize

/-! ### Each instruction -/

/-- An instruction that answers a next state stores within its own list of addresses. -/
theorem exec_storesWithin {i : Instr} {s t : State} (h : exec i s = .next t) :
    StoresWithin (storedBytes i s) s t := by
  cases i with
  | storbDisp5 | storbDisp18 | storbFar | storbAbs | storbImmBase | storbImmDisp16 | storbImmAbs =>
    cases h; exact storesWithin_storeByteAt _ _ _ _
  | storwDisp5 | storwDisp18 | storwFar | storwAbs | storwImmBase | storwImmDisp16 | storwImmAbs =>
    cases h; exact storesWithin_storeWordAt _ _ _ _
  | cbitbBase | cbitbDisp16 | cbitbAbs | sbitbBase | sbitbDisp16 | sbitbAbs =>
    cases h; exact storesWithin_changeByteAt _ _ _ _ _
  | cbitwBase | cbitwDisp16 | cbitwAbs | sbitwBase | sbitwDisp16 | sbitwAbs =>
    cases h; exact storesWithin_changeWordAt _ _ _ _ _
  | push => cases h; exact (storesWithin_pushRun _ _ _).advance 2
  | pop => cases h; exact (storesWithin_popRun _ _ _).advance 2
  | popretSmall | popretLarge => cases h; exact (storesWithin_popRun _ _ _).popReturn _ _
  | storm rcnt =>
    cases h
    have hrun : 2 + countOf rcnt ≤ 16 := by simp only [countOf]; omega
    exact ((storesWithin_storeRun s _ hrun).setReg _ _).advance 2
  | excp => cases h; exact storesWithin_takeException _ _ _
  | mulbReg | mulbImm5 | mulbImm16 => cases h; exact storesWithin_multiply (storesNothing_resultByte _ _ _ _)
  | mulwReg | mulwImm5 | mulwImm16 | mulsb => cases h; exact storesWithin_multiply (storesNothing_resultWord _ _ _ _)
  | mulsw | muluw =>
    obtain ⟨_, rfl⟩ := withPair_next h
    exact storesWithin_multiply (storesNothing_resultPair _ _ _ _)
  | addbReg | addbImm5 | addbImm16 | addcbReg | addcbImm5 | addcbImm16 | subcbReg | subcbImm5 | subcbImm16
    | subbReg | subbImm5 | subbImm16 | addwReg | addwImm5 | addwImm16 | addcwReg | addcwImm5 | addcwImm16
    | subcwReg | subcwImm5 | subcwImm16 | subwReg | subwImm5 | subwImm16 | addubReg | addubImm5 | addubImm16
    | xorbReg | xorbImm5 | xorbImm16 | andbReg | andbImm5 | andbImm16 | movbReg | movbImm5 | movbImm16
    | orbReg | orbImm5 | orbImm16 | adduwReg | adduwImm5 | adduwImm16 | xorwReg | xorwImm5 | xorwImm16
    | andwReg | andwImm5 | andwImm16 | movwReg | movwImm5 | movwImm16 | orwReg | orwImm5 | orwImm16
    | movxb | movzb | seq | sne | scs | scc | shi | sls | sgt | sle | sfs | sfc | slo | shs | slt | sge
    | cmpbReg | cmpbImm5 | cmpbImm16 | cmpwReg | cmpwImm5 | cmpwImm16 | brDisp9 | brDisp17 | brDisp21
    | jumpSmall | balSmall | jalSmall | nop | di | ei | wait | eiwait =>
    cases h; exact storesNothing rfl rfl rfl
  | movd => obtain ⟨_, rfl⟩ := withPair_next h; exact storesNothing_resultPair _ _ _ _
  | ashubReg | ashubImm5 | ashubImm16 | lshbReg | lshbImm5 | lshbImm16 =>
    cases h; exact storesNothing_shiftByte _ _ _ _
  | ashuwReg | ashuwImm5 | ashuwImm16 | lshwReg | lshwImm5 | lshwImm16 =>
    cases h; exact storesNothing_shiftWord _ _ _ _
  | tbitReg | tbitImm5 | tbitImm16 => cases h; exact storesNothing_testBit _ _ _ _
  | tbitbBase | tbitbDisp16 | tbitbAbs => cases h; exact storesNothing_testByteAt _ _ _ _
  | tbitwBase | tbitwDisp16 | tbitwAbs => cases h; exact storesNothing_testWordAt _ _ _ _
  | beq0b | beq0w | beq1b | beq1w | bne0b | bne0w | bne1b | bne1w | beqDisp9 | beqDisp17 | beqDisp21
    | bneDisp9 | bneDisp17 | bneDisp21 | bcsDisp9 | bcsDisp17 | bcsDisp21 | bccDisp9 | bccDisp17 | bccDisp21
    | bhiDisp9 | bhiDisp17 | bhiDisp21 | blsDisp9 | blsDisp17 | blsDisp21 | bgtDisp9 | bgtDisp17 | bgtDisp21
    | bleDisp9 | bleDisp17 | bleDisp21 | bfsDisp9 | bfsDisp17 | bfsDisp21 | bfcDisp9 | bfcDisp17 | bfcDisp21
    | bloDisp9 | bloDisp17 | bloDisp21 | bhsDisp9 | bhsDisp17 | bhsDisp21 | bltDisp9 | bltDisp17 | bltDisp21
    | bgeDisp9 | bgeDisp17 | bgeDisp21 | jeqSmall | jneSmall | jcsSmall | jccSmall | jhiSmall | jlsSmall
    | jgtSmall | jleSmall | jfsSmall | jfcSmall | jloSmall | jhsSmall | jltSmall | jgeSmall =>
    cases h; exact storesNothing_branch _ _ _ _
  | jeqLarge | jneLarge | jcsLarge | jccLarge | jhiLarge | jlsLarge | jgtLarge | jleLarge | jfsLarge
    | jfcLarge | jloLarge | jhsLarge | jltLarge | jgeLarge | jumpLarge =>
    exact storesNothing_jumpPair h
  | balLarge => exact storesNothing_balLarge h
  | jalLarge => exact storesNothing_jalLarge h
  | loadbDisp5 | loadbDisp18 | loadbFar | loadbAbs => cases h; exact storesNothing_loadByteInto _ _ _ _
  | loadwDisp5 | loadwDisp18 | loadwFar | loadwAbs => cases h; exact storesNothing_loadWordInto _ _ _ _
  | loadm => cases h; exact storesNothing
  | lpr => exact storesNothing_lpr h
  | spr => exact storesNothing_spr h
  | retx => cases h; exact storesNothing

/-- Settles O20: the stores of every instruction lie within its own list, and are recorded where RAM stands. -/
theorem memoryChangesOnlyWhereStored : Obligations.MemoryChangesOnlyWhereStored := by
  intro i s t h
  obtain ⟨hmem, hrec⟩ := exec_storesWithin h
  exact ⟨hmem, hrec.notRam, hrec.kept, hrec.recorded⟩

end Sys2Proof.Machine
end

section
/-! SUPPORT. The decoder reads each instruction from its own words (30_encoding.md R91 to R112): the field groups
a format cuts an operand into, what the decoder reads from the words of each format, and how many words it reads. -/

namespace Sys2Proof

/-! ### An operand put together from the fields it was cut into -/

theorem imm5Of_cut {f : Fields} {imm : BitVec 5} (h1 : f.op1 = imm.extractLsb' 1 4) (h0 : f.b0 = imm.getLsbD 0) :
    imm5Of f = imm := by
  refine BitVec.eq_of_getLsbD_eq fun k hk => ?_
  simp only [imm5Of, h1, h0, BitVec.getLsbD_append, BitVec.getLsbD_extractLsb']
  interval_cases k <;> simp

theorem evenDisp_iff {n : Nat} (d : BitVec n) : evenDisp d = true ↔ d.getLsbD 0 = false := by
  simp [evenDisp]

theorem cmpDispOf_cut {f : Fields} {d : BitVec 5} (h1 : f.op1 = d.extractLsb' 1 4) (h0 : d.getLsbD 0 = false) :
    cmpDispOf f = d := by
  refine BitVec.eq_of_getLsbD_eq fun k hk => ?_
  simp only [cmpDispOf, h1, BitVec.getLsbD_append, BitVec.getLsbD_extractLsb']
  interval_cases k <;> simp [h0, -BitVec.getLsbD_eq_getElem]

theorem disp9Of_cut {f : Fields} {d : BitVec 9} (h4 : f.op4 = d.extractLsb' 5 4) (h1 : f.op1 = d.extractLsb' 1 4)
    (h0 : f.b0 = d.getLsbD 0) : disp9Of f = d := by
  refine BitVec.eq_of_getLsbD_eq fun k hk => ?_
  simp only [disp9Of, h4, h1, h0, BitVec.getLsbD_append, BitVec.getLsbD_extractLsb']
  interval_cases k <;> simp

theorem disp17Of_cut {f : Fields} {d : BitVec 17} (h1 : f.op1 = BitVec.ofBool (d.getLsbD 16) ++ 0b111#3) :
    disp17Of f (d.extractLsb' 0 16) = d := by
  refine BitVec.eq_of_getLsbD_eq fun k hk => ?_
  simp only [disp17Of, h1, BitVec.getLsbD_append, BitVec.getLsbD_extractLsb']
  interval_cases k <;> simp

theorem disp21Of_cut {f : Fields} {d : BitVec 21}
    (h1 : f.op1 = BitVec.ofBool (d.getLsbD 16) ++ d.extractLsb' 17 3) (h0 : d.getLsbD 0 = false) :
    disp21Of f (d.extractLsb' 1 15 ++ BitVec.ofBool (d.getLsbD 20)) = d := by
  refine BitVec.eq_of_getLsbD_eq fun k hk => ?_
  simp only [disp21Of, h1, BitVec.getLsbD_append, BitVec.getLsbD_extractLsb']
  interval_cases k <;> simp [h0, -BitVec.getLsbD_eq_getElem]

theorem imm21Of_cut {f : Fields} {d : BitVec 21} (h4 : f.op4 = 0b001#3 ++ BitVec.ofBool (d.getLsbD 20))
    (h1 : f.op1 = BitVec.ofBool (d.getLsbD 16) ++ d.extractLsb' 17 3) :
    imm21Of f (d.extractLsb' 0 16) = d := by
  refine BitVec.eq_of_getLsbD_eq fun k hk => ?_
  simp only [imm21Of, h4, h1, BitVec.getLsbD_append, BitVec.getLsbD_extractLsb']
  interval_cases k <;> simp

theorem disp5Of_cut {f : Fields} {d : BitVec 5} (h4 : f.op4 = d.extractLsb' 1 4) (h0 : f.b0 = d.getLsbD 0) :
    disp5Of f = d := by
  refine BitVec.eq_of_getLsbD_eq fun k hk => ?_
  simp only [disp5Of, h4, h0, BitVec.getLsbD_append, BitVec.getLsbD_extractLsb']
  interval_cases k <;> simp

theorem disp18Of_cut {f : Fields} {high : BitVec 2} {d : BitVec 18} (h4 : f.op4 = high ++ d.extractLsb' 16 2) :
    disp18Of f (d.extractLsb' 0 16) = d := by
  refine BitVec.eq_of_getLsbD_eq fun k hk => ?_
  simp only [disp18Of, h4, BitVec.getLsbD_append, BitVec.getLsbD_extractLsb']
  interval_cases k <;> simp

theorem bitAbs18Of_cut {f : Fields} {ext : BitVec 2} {d : BitVec 18}
    (h2 : f.op2 = encExt ext (d.getLsbD 17) (d.getLsbD 16)) : bitAbs18Of f (d.extractLsb' 0 16) = d := by
  obtain ⟨hb3, hb0, -⟩ := encExt_fields ext (d.getLsbD 17) (d.getLsbD 16)
  refine BitVec.eq_of_getLsbD_eq fun k hk => ?_
  simp only [bitAbs18Of, h2, hb3, hb0, BitVec.getLsbD_append, BitVec.getLsbD_extractLsb']
  interval_cases k <;> simp

theorem op2Restricted_cut {f : Fields} {ext : BitVec 2} {r : Restricted}
    (h2 : f.op2 = encExt ext (restrictedB3 r) (restrictedB0 r)) : op2Restricted f = r := by
  obtain ⟨hb3, hb0, -⟩ := encExt_fields ext (restrictedB3 r) (restrictedB0 r)
  rw [op2Restricted, h2, hb3, hb0, restrictedOf_bits]

theorem op2Ext_cut {f : Fields} {ext : BitVec 2} {b3 b0 : Bool} (h2 : f.op2 = encExt ext b3 b0) :
    op2Ext f = ext := by
  rw [op2Ext, h2]
  exact (encExt_fields ext b3 b0).2.2

/-! ### The words of each format are read alone

The first word of each format says how many words there are, and the decode tree goes to the branch of the
format. -/

/-- The words ws are as many as their first word says (30_encoding.md R92), and the decoder reads d from them. -/
inductive Reads : List Word → Except Undefined Instr → Prop
  | one {f : Fields} {d : Except Undefined Instr} (length : instrLength (wordOf f) = 2)
      (read : decodeFields f 0 = d) : Reads [wordOf f] d
  | two {f : Fields} {w2 : Word} {d : Except Undefined Instr} (length : instrLength (wordOf f) = 4)
      (read : decodeFields f w2 = d) : Reads [wordOf f, w2] d

/-- What is read does not depend on the words after it. -/
theorem Reads.decodeWords_append {ws : List Word} {d : Except Undefined Instr} (h : Reads ws d)
    (rest : List Word) : decodeWords (ws ++ rest) = d := by
  cases h with
  | one length read => simpa [decodeWords, length, decode] using read
  | two length read => simpa [decodeWords, length, decode] using read

/-- The first word says how many words there are (30_encoding.md R92). -/
theorem Reads.instrLength_head {w : Word} {rest : List Word} {d : Except Undefined Instr}
    (h : Reads (w :: rest) d) : instrLength w = 2 * (rest.length + 1) := by
  cases h with
  | one length _ => exact length
  | two length _ => exact length

section
variable {i : Bool} {op4 : BitVec 4}

/-- 30_encoding.md R94. -/
theorem reads_encReg {src dest : Reg} (hbits : op4 ≠ 0b0010#4) (hjump : op4 ≠ 0b1010#4) :
    Reads (encReg i op4 src dest) (decodeReg ⟨false, true, i, op4, regBits dest, regBits src, true⟩) :=
  .one (by simp [instrLength]) (by simp [decodeFields, decodeSpace01, hbits, hjump])

/-- The short immediate 10001 is the escape of the medium form (30_encoding.md R95). -/
theorem imm5Ok_cut (imm : BitVec 5) :
    imm5Ok imm = !(imm.extractLsb' 1 4 == 0b1000#4 && imm.getLsbD 0) := by
  revert imm; decide

/-- 30_encoding.md R95. -/
theorem reads_encImm5 {imm : BitVec 5} {dest : Reg} (hbits : op4 ≠ 0b0010#4) (hbranch : op4 ≠ 0b1010#4)
    (hjump : (op4 == 0b1011#4 && !i) = false) (himm : imm5Ok imm = true) :
    Reads (encImm5 i op4 imm dest)
      (decodeImm5 ⟨false, false, i, op4, regBits dest, imm.extractLsb' 1 4, imm.getLsbD 0⟩) := by
  rw [imm5Ok_cut, Bool.not_eq_true'] at himm
  exact .one (by simp only [instrLength, fieldsOf_wordOf, himm]; simp [hbits, hbranch])
    (by simp only [decodeFields, decodeSpace00, himm, hjump]; simp [hbits, hbranch])

/-- 30_encoding.md R96. -/
theorem reads_encImm16 {imm : Word} {dest : Reg} (hbits : op4 ≠ 0b0010#4) (hbranch : op4 ≠ 0b1010#4)
    (hjump : (op4 == 0b1011#4 && !i) = false) :
    Reads (encImm16 i op4 imm dest) (decodeImm16 ⟨false, false, i, op4, regBits dest, 0b1000#4, true⟩ imm) :=
  .two (by simp only [instrLength, fieldsOf_wordOf, hjump]; simp [hbits, hbranch])
    (by simp only [decodeFields, decodeSpace00, hjump]; simp [hbits, hbranch])

/-- 30_encoding.md R98. -/
theorem reads_encCmpBranch {ext : BitVec 2} {src : Restricted} {disp : BitVec 5} :
    Reads (encCmpBranch i ext src disp)
      (decodeCmpBranch ⟨false, false, i, 0b1010#4, encExt ext (restrictedB3 src) (restrictedB0 src),
        disp.extractLsb' 1 4, true⟩) :=
  .one (by simp [instrLength]) rfl

/-- 30_encoding.md R100: the two-word rows of the special format are MOVD and the large-model branches. -/
theorem reads_encSpecial {op2 op1 : BitVec 4} (h2 : op4 ≠ 0b0010#4) (h3 : op4 ≠ 0b0011#4) (h10 : op4 ≠ 0b1010#4)
    (h11 : op4 ≠ 0b1011#4) :
    Reads (encSpecial op4 op2 op1) (decodeSpecial ⟨false, true, true, op4, op2, op1, false⟩ 0) :=
  .one (by simp [instrLength, h2, h3, h10, h11]) rfl

/-- 30_encoding.md R99. -/
theorem reads_encMovd {imm : BitVec 21} {dest : Reg} : Reads (encMovd imm dest) (.ok (.movd imm dest)) := by
  have hread : ∀ f w2, f.op4 = 0b001#3 ++ BitVec.ofBool (imm.getLsbD 20) →
      decodeSpecial f w2 = .ok (.movd (imm21Of f w2) (regOf f.op2)) := fun f w2 h4 => by
    rw [decodeSpecial, h4]; cases imm.getLsbD 20 <;> rfl
  refine .two ?_ ?_
  · cases imm.getLsbD 20 <;> simp [instrLength]
  · refine (hread _ _ rfl).trans ?_
    rw [imm21Of_cut rfl rfl]
    rfl

/-- 30_encoding.md R103. -/
theorem reads_encBranch9 {cond : BitVec 4} {disp : BitVec 9} (h : evenDisp disp = true) :
    Reads (encBranch9 cond disp) (decodeBranch9 cond disp) := by
  have h0 := (evenDisp_iff disp).1 h
  rw [encBranch9, h0]
  exact .one (by simp [instrLength]) (congrArg (decodeBranch9 cond) (disp9Of_cut rfl rfl h0.symm))

/-- In both disp17 formats the bits 3:1 of the first word are 111 (30_encoding.md R104, R106). -/
theorem low3_disp17 (b : Bool) : (BitVec.ofBool b ++ 0b111#3).extractLsb' 0 3 = 0b111#3 :=
  BitVec.extractLsb'_append_eq_right

/-- 30_encoding.md R104. -/
theorem reads_encBranch17 {cond : BitVec 4} {disp : BitVec 17} :
    Reads (encBranch17 false cond disp) (decodeBranch17 cond disp) := by
  refine .two (by simp [instrLength]) ?_
  simp only [decodeFields, decodeSpace00, low3_disp17]
  exact congrArg (decodeBranch17 cond) (disp17Of_cut rfl)

/-- 30_encoding.md R106. -/
theorem reads_balSmall {link : Reg} {disp : BitVec 17} :
    Reads (encBranch17 true (regBits link) disp) (.ok (.balSmall link disp)) := by
  refine .two (by simp [instrLength]) ?_
  simp only [decodeFields, decodeSpace00, low3_disp17]
  exact congrArg (fun d => Except.ok (Instr.balSmall link d)) (disp17Of_cut rfl)

/-- 30_encoding.md R105. -/
theorem reads_encBranch21 {cond : BitVec 4} {disp : BitVec 21} (h : evenDisp disp = true) :
    Reads (encBranch21 0b1010#4 cond disp) (decodeBranch21 cond disp) :=
  .two (by simp [instrLength]) (congrArg (decodeBranch21 cond) (disp21Of_cut rfl ((evenDisp_iff disp).1 h)))

/-- 30_encoding.md R106. -/
theorem reads_balLarge {link : Reg} {disp : BitVec 21} (h : evenDisp disp = true) :
    Reads (encBranch21 0b1011#4 (regBits link) disp) (.ok (.balLarge link disp)) :=
  .two (by simp [instrLength])
    (congrArg (fun d => Except.ok (Instr.balLarge link d)) (disp21Of_cut rfl ((evenDisp_iff disp).1 h)))

/-- 30_encoding.md R107. -/
theorem reads_encJumpSmall {cond : BitVec 4} {target : Reg} :
    Reads (encJumpSmall false cond target) (decodeJumpSmall cond target) :=
  .one (by simp [instrLength]) rfl

/-- 30_encoding.md R107. -/
theorem reads_jalSmall {link target : Reg} :
    Reads (encJumpSmall true (regBits link) target) (.ok (.jalSmall link target)) :=
  .one (by simp [instrLength]) rfl

/-- 30_encoding.md R107. -/
theorem reads_encJumpLarge {cond : BitVec 4} {target : Reg} :
    Reads (encJumpLarge true cond target) (decodeJumpLarge cond target) :=
  .one (by simp [instrLength]) rfl

/-- 30_encoding.md R107. -/
theorem reads_jalLarge {link target : Reg} :
    Reads (encJumpLarge false (regBits link) target) (.ok (.jalLarge link target)) :=
  .one (by simp [instrLength]) rfl

/-- 30_encoding.md R108. -/
theorem reads_encBitsBase {ext : BitVec 2} {pos : BitVec 4} {base : Restricted} :
    Reads (encBitsBase i ext pos base) (.ok (decodeBitsBase ext i pos base)) := by
  refine .one (by simp [instrLength]) ?_
  show Except.ok (decodeBitsBase (op2Ext _) i pos (op2Restricted _)) = _
  rw [op2Ext_cut rfl, op2Restricted_cut rfl]

/-- 30_encoding.md R108. -/
theorem reads_encBitsDisp16 {ext : BitVec 2} {pos : BitVec 4} {disp : Word} {base : Restricted} :
    Reads (encBitsDisp16 i ext pos disp base) (.ok (decodeBitsDisp16 ext i pos disp base)) := by
  refine .two (by simp [instrLength]) ?_
  show Except.ok (decodeBitsDisp16 (op2Ext _) i pos disp (op2Restricted _)) = _
  rw [op2Ext_cut rfl, op2Restricted_cut rfl]

/-- 30_encoding.md R108. -/
theorem reads_encBitsAbs {ext : BitVec 2} {pos : BitVec 4} {addr : BitVec 18} :
    Reads (encBitsAbs i ext pos addr) (.ok (decodeBitsAbs ext i pos addr)) := by
  refine .two (by simp [instrLength]) ?_
  show Except.ok (decodeBitsAbs (op2Ext _) i pos (bitAbs18Of _ _)) = _
  rw [op2Ext_cut rfl, bitAbs18Of_cut rfl]


/-! #### LOADi and STORi (30_encoding.md R101) -/

/-- The row of LOADi (store = false) or STORi, of bytes (i = false) or words, in the disp5 form. -/
def accessDisp5 (store i : Bool) (reg : Reg) (disp : BitVec 5) (base : Reg) : Instr :=
  match store, i with
  | false, false => .loadbDisp5 disp base reg
  | false, true => .loadwDisp5 disp base reg
  | true, false => .storbDisp5 reg disp base
  | true, true => .storwDisp5 reg disp base

/-- As accessDisp5, in the disp18 form. -/
def accessDisp18 (store i : Bool) (reg : Reg) (disp : BitVec 18) (base : Reg) : Instr :=
  match store, i with
  | false, false => .loadbDisp18 disp base reg
  | false, true => .loadwDisp18 disp base reg
  | true, false => .storbDisp18 reg disp base
  | true, true => .storwDisp18 reg disp base

/-- As accessDisp5, in the far form. -/
def accessFar (store i : Bool) (reg : Reg) (disp : BitVec 18) (base : Reg) : Instr :=
  match store, i with
  | false, false => .loadbFar disp base reg
  | false, true => .loadwFar disp base reg
  | true, false => .storbFar reg disp base
  | true, true => .storwFar reg disp base

/-- As accessDisp5, in the absolute form. -/
def accessAbs (store i : Bool) (reg : Reg) (addr : BitVec 18) : Instr :=
  match store, i with
  | false, false => .loadbAbs addr reg
  | false, true => .loadwAbs addr reg
  | true, false => .storbAbs reg addr
  | true, true => .storwAbs reg addr

section
variable {store b0 : Bool} {op2 op1 : BitVec 4} {w2 : Word}

/-- 30_encoding.md R101 (a): bits 12 and 0 are not both 1. -/
theorem decodeFields_accessDisp5 (h : (op4.getLsbD 3 && b0) = false) :
    decodeFields ⟨true, store, i, op4, op2, op1, b0⟩ w2 =
      .ok (accessDisp5 store i (regOf op2) (disp5Of ⟨true, store, i, op4, op2, op1, b0⟩) (regOf op1)) := by
  cases store <;> cases i <;> simp only [decodeFields, decodeLoad, decodeStore, h] <;> rfl

/-- 30_encoding.md R101 (b): bits 12 and 0 are 1, bit 11 is 0. -/
theorem decodeFields_accessDisp18 (h3 : op4.getLsbD 3 = true) (h2 : op4.getLsbD 2 = false) :
    decodeFields ⟨true, store, i, op4, op2, op1, true⟩ w2 =
      .ok (accessDisp18 store i (regOf op2) (disp18Of ⟨true, store, i, op4, op2, op1, true⟩ w2) (regOf op1)) := by
  cases store <;> cases i <;> simp only [decodeFields, decodeLoad, decodeStore, h3, h2] <;> rfl

/-- 30_encoding.md R101 (c): bits 12, 11 and 0 are 1, the base field is not 1111. -/
theorem decodeFields_accessFar (h3 : op4.getLsbD 3 = true) (h2 : op4.getLsbD 2 = true)
    (h1 : (op1 == 0b1111#4) = false) :
    decodeFields ⟨true, store, i, op4, op2, op1, true⟩ w2 =
      .ok (accessFar store i (regOf op2) (disp18Of ⟨true, store, i, op4, op2, op1, true⟩ w2) (regOf op1)) := by
  cases store <;> cases i <;> simp only [decodeFields, decodeLoad, decodeStore, h3, h2, h1] <;> rfl

/-- 30_encoding.md R101 (d): bits 12, 11 and 0 are 1, the base field is 1111. -/
theorem decodeFields_accessAbs (h3 : op4.getLsbD 3 = true) (h2 : op4.getLsbD 2 = true) :
    decodeFields ⟨true, store, i, op4, op2, 0b1111#4, true⟩ w2 =
      .ok (accessAbs store i (regOf op2) (disp18Of ⟨true, store, i, op4, op2, 0b1111#4, true⟩ w2)) := by
  cases store <;> cases i <;> simp only [decodeFields, decodeLoad, decodeStore, h3, h2] <;> rfl

/-- 30_encoding.md R92: a load or store has two words where bits 12 and 0 are 1. -/
theorem instrLength_access :
    instrLength (wordOf ⟨true, store, i, op4, op2, op1, b0⟩) = if op4.getLsbD 3 && b0 then 4 else 2 := by
  simp only [instrLength, fieldsOf_wordOf]; rfl

end

/-- The two high bits of op4 choose between the 4-byte forms (30_encoding.md R101). -/
theorem high_op4 (high low : BitVec 2) :
    (high ++ low).getLsbD 3 = high.getLsbD 1 ∧ (high ++ low).getLsbD 2 = high.getLsbD 0 := by
  revert high low; decide

section
variable {store : Bool} {reg base : Reg}

theorem disp5Ok_cut (d : BitVec 5) : disp5Ok d = !((d.extractLsb' 1 4).getLsbD 3 && d.getLsbD 0) := by
  revert d; decide

/-- 30_encoding.md R101 (a). -/
theorem reads_encDisp5 {disp : BitVec 5} (h : disp5Ok disp = true) :
    Reads (encDisp5 store i reg disp base) (.ok (accessDisp5 store i reg disp base)) := by
  rw [disp5Ok_cut, Bool.not_eq_true'] at h
  refine .one (by rw [instrLength_access, h]; rfl) ?_
  rw [decodeFields_accessDisp5 h, disp5Of_cut rfl rfl]
  rfl

/-- 30_encoding.md R101 (b). -/
theorem reads_encDisp18 {disp : BitVec 18} :
    Reads (encDisp18 store i reg disp base) (.ok (accessDisp18 store i reg disp base)) := by
  obtain ⟨h3, h2⟩ := high_op4 0b10#2 (disp.extractLsb' 16 2)
  refine .two (by rw [instrLength_access, h3]; rfl) ?_
  rw [decodeFields_accessDisp18 h3 h2, disp18Of_cut rfl]
  rfl

/-- 30_encoding.md R101 (c). -/
theorem reads_encFar {disp : BitVec 18} (h : farBaseOk base = true) :
    Reads (encFar store i reg disp base) (.ok (accessFar store i reg disp base)) := by
  obtain ⟨h3, h2⟩ := high_op4 0b11#2 (disp.extractLsb' 16 2)
  have h1 : (regBits base == 0b1111#4) = false := by revert base; decide
  refine .two (by rw [instrLength_access, h3]; rfl) ?_
  rw [decodeFields_accessFar h3 h2 h1, disp18Of_cut rfl]
  rfl

/-- 30_encoding.md R101 (d). -/
theorem reads_encAbs {addr : BitVec 18} :
    Reads (encAbs store i reg addr) (.ok (accessAbs store i reg addr)) := by
  obtain ⟨h3, h2⟩ := high_op4 0b11#2 (addr.extractLsb' 16 2)
  refine .two (by rw [instrLength_access, h3]; rfl) ?_
  rw [decodeFields_accessAbs h3 h2, disp18Of_cut rfl]
  rfl

end

/-! #### Rows whose operands are cut inside op2 or op1 -/

/-- A row of the short-immediate format, by what its branch of the decode tree answers. -/
theorem reads_imm5Row {imm : BitVec 5} {dest : Reg} {mk : BitVec 5 → Reg → Instr} (hbits : op4 ≠ 0b0010#4)
    (hbranch : op4 ≠ 0b1010#4) (hjump : (op4 == 0b1011#4 && !i) = false) (himm : imm5Ok imm = true)
    (row : ∀ f : Fields, f.op4 = op4 → f.i = i → decodeImm5 f = .ok (mk (imm5Of f) (regOf f.op2))) :
    Reads (encImm5 i op4 imm dest) (.ok (mk imm dest)) := by
  have h := reads_encImm5 (dest := dest) hbits hbranch hjump himm
  rwa [row _ rfl rfl, imm5Of_cut rfl rfl] at h

/-- A row of the compare-and-branch format, by what its branch of the decode tree answers. -/
theorem reads_cmpBranchRow {ext : BitVec 2} {src : Restricted} {disp : BitVec 5}
    {mk : Restricted → BitVec 5 → Instr} (heven : evenDisp disp = true)
    (row : ∀ f : Fields, op2Ext f = ext → f.i = i → decodeCmpBranch f = .ok (mk (op2Restricted f) (cmpDispOf f))) :
    Reads (encCmpBranch i ext src disp) (.ok (mk src disp)) := by
  have h := reads_encCmpBranch (i := i) (ext := ext) (src := src) (disp := disp)
  rwa [row _ (op2Ext_cut rfl) rfl, op2Restricted_cut rfl, cmpDispOf_cut rfl ((evenDisp_iff disp).1 heven)] at h

/-- The short-immediate row whose zero operands are NOP (30_encoding.md R112). -/
theorem decodeImm5_addub {f : Fields} (h4 : f.op4 = 0b0001#4) (hi : f.i = false)
    (hnop : (imm5Of f == 0 && regOf f.op2 == 0) = false) :
    decodeImm5 f = .ok (.addubImm5 (imm5Of f) (regOf f.op2)) := by
  simp only [decodeImm5, h4, hi, hnop]
  rfl

/-- 30_encoding.md R95, R112. -/
theorem reads_addubImm5 {imm : BitVec 5} {dest : Reg} (h : (Instr.addubImm5 imm dest).WellFormed) :
    Reads (encode (.addubImm5 imm dest)) (.ok (.addubImm5 imm dest)) := by
  obtain ⟨himm, hnop⟩ : imm5Ok imm = true ∧ (!(imm == 0 && dest == 0)) = true := Bool.and_eq_true_iff.1 h
  rw [Bool.not_eq_true'] at hnop
  have hreads : Reads (encode (.addubImm5 imm dest)) _ := reads_encImm5 (by decide) (by decide) rfl himm
  rw [decodeImm5_addub rfl rfl (by rw [imm5Of_cut rfl rfl]; exact hnop),
    imm5Of_cut rfl rfl] at hreads
  exact hreads

/-- 30_encoding.md R112. -/
theorem reads_nop : Reads (encode .nop) (.ok .nop) :=
  reads_encImm5 (imm := 0) (dest := 0) (by decide) (by decide) rfl rfl

/-- MULUW in the special format: bits 3:2 of the first word are 00 (30_encoding.md R100). -/
theorem decodeSpecial_muluw {f : Fields} {w2 : Word} {b3 b0 : Bool} (h4 : f.op4 = 0b1111#4)
    (h1 : f.op1 = encExt 0b00#2 b3 b0) :
    decodeSpecial f w2 = .ok (.muluw (restrictedOf b3 b0) (regOf f.op2)) := by
  have hmiddle : ∀ b3 b0, (encExt 0b00#2 b3 b0).getLsbD 2 = false ∧ (encExt 0b00#2 b3 b0).getLsbD 1 = false := by
    decide
  obtain ⟨hb3, hb0, -⟩ := encExt_fields 0b00#2 b3 b0
  simp only [decodeSpecial, h4, h1, hmiddle b3 b0, hb3, hb0]
  rfl

/-- 30_encoding.md R100. -/
theorem reads_muluw {src : Restricted} {dest : Reg} : Reads (encode (.muluw src dest)) (.ok (.muluw src dest)) := by
  have hreads : Reads (encode (.muluw src dest)) _ :=
    reads_encSpecial (by decide) (by decide) (by decide) (by decide)
  rwa [decodeSpecial_muluw rfl rfl, restrictedOf_bits] at hreads

/-- PUSH, POP and POPRET by bits 8 and 7 of the first word (30_encoding.md R100). -/
def stackRow (b8 b7 : Bool) (rcnt : BitVec 2) (reg : Reg) : Instr :=
  match b8, b7 with
  | false, false => .push rcnt reg
  | false, true => .pop rcnt reg
  | true, false => .popretSmall rcnt reg
  | true, true => .popretLarge rcnt reg

/-- The rows of the special format with a count and a register, by bits 8 and 7 (30_encoding.md R100, R111). -/
theorem decodeSpecial_stack {f : Fields} {w2 : Word} {b8 b7 : Bool} {rcnt : BitVec 2} (h4 : f.op4 = 0b0110#4)
    (h2 : f.op2 = encCount b8 b7 rcnt) :
    decodeSpecial f w2 = .ok (stackRow b8 b7 rcnt (regOf f.op1)) := by
  obtain ⟨hb8, hb7, hcnt⟩ := encCount_fields b8 b7 rcnt
  simp only [decodeSpecial, h4, h2, hb8, hb7, hcnt]
  cases b8 <;> cases b7 <;> rfl

/-- 30_encoding.md R100, R111. -/
theorem reads_stackRow {b8 b7 : Bool} {rcnt : BitVec 2} {reg : Reg} :
    Reads (encSpecial 0b0110#4 (encCount b8 b7 rcnt) (regBits reg)) (.ok (stackRow b8 b7 rcnt reg)) := by
  have hreads := reads_encSpecial (op4 := 0b0110#4) (op2 := encCount b8 b7 rcnt) (op1 := regBits reg)
    (by decide) (by decide) (by decide) (by decide)
  rwa [decodeSpecial_stack rfl rfl] at hreads

/-- LOADM and STORM by bit 7 of the first word (30_encoding.md R100). -/
def blockRow (b7 : Bool) (rcnt : BitVec 2) : Instr :=
  match b7 with
  | false => .loadm rcnt
  | true => .storm rcnt

/-- LOADM and STORM by bit 7 of the first word (30_encoding.md R100, R111). -/
theorem decodeSpecial_block {f : Fields} {w2 : Word} {b7 : Bool} {rcnt : BitVec 2} (h4 : f.op4 = 0b1111#4)
    (h1 : f.op1 = 0b0010#4) (h2 : f.op2 = encCount false b7 rcnt) :
    decodeSpecial f w2 = .ok (blockRow b7 rcnt) := by
  obtain ⟨hb8, hb7, hcnt⟩ := encCount_fields false b7 rcnt
  simp only [decodeSpecial, h4, h1, h2, hb8, hb7, hcnt]
  cases b7 <;> rfl

/-- 30_encoding.md R100, R111. -/
theorem reads_blockRow {b7 : Bool} {rcnt : BitVec 2} :
    Reads (encSpecial 0b1111#4 (encCount false b7 rcnt) 0b0010#4) (.ok (blockRow b7 rcnt)) := by
  have hreads := reads_encSpecial (op4 := 0b1111#4) (op2 := encCount false b7 rcnt) (op1 := 0b0010#4)
    (by decide) (by decide) (by decide) (by decide)
  rwa [decodeSpecial_block rfl rfl rfl] at hreads

end

/-! ### The round trip from instructions, and lengths -/

/-- The decoder reads each well-formed instruction from its own words (30_encoding.md R91 to R112). -/
theorem encode_reads {ins : Instr} (h : ins.WellFormed) : Reads (encode ins) (.ok ins) := by
  cases ins with
  | addbReg | addwReg | addubReg | adduwReg | mulbReg | mulwReg | ashubReg | ashuwReg | lshbReg | lshwReg
    | xorbReg | xorwReg | cmpbReg | cmpwReg | andbReg | andwReg | addcbReg | addcwReg | movbReg | movwReg
    | subcbReg | subcwReg | orbReg | orwReg | subbReg | subwReg | tbitReg =>
    exact reads_encReg (by decide) (by decide)
  | addbImm5 | addwImm5 | adduwImm5 | mulbImm5 | mulwImm5 | ashubImm5 | ashuwImm5 | lshbImm5 | lshwImm5
    | xorbImm5 | xorwImm5 | cmpbImm5 | cmpwImm5 | andbImm5 | andwImm5 | addcbImm5 | addcwImm5 | movbImm5
    | movwImm5 | subcbImm5 | subcwImm5 | orbImm5 | orwImm5 | subbImm5 | subwImm5 | tbitImm5 =>
    exact reads_imm5Row (by decide) (by decide) rfl h fun f h4 hi => by simp only [decodeImm5, h4, hi]
  | addbImm16 | addwImm16 | addubImm16 | adduwImm16 | mulbImm16 | mulwImm16 | ashubImm16 | ashuwImm16
    | lshbImm16 | lshwImm16 | xorbImm16 | xorwImm16 | cmpbImm16 | cmpwImm16 | andbImm16 | andwImm16
    | addcbImm16 | addcwImm16 | movbImm16 | movwImm16 | subcbImm16 | subcwImm16 | orbImm16 | orwImm16
    | subbImm16 | subwImm16 | tbitImm16 => exact reads_encImm16 (by decide) (by decide) rfl
  | addubImm5 => exact reads_addubImm5 h
  | nop => exact reads_nop
  | beq0b | beq0w | beq1b | beq1w | bne0b | bne0w =>
    exact reads_cmpBranchRow h fun f hext hi => by simp only [decodeCmpBranch, hext, hi]
  | bne1b | bne1w => exact reads_cmpBranchRow h fun f hext hi => by simp only [decodeCmpBranch, hext, hi]; rfl
  | movd => exact reads_encMovd
  | mulsb | mulsw | movxb | movzb | seq | sne | scs | scc | shi | sls | sgt | sle | sfs | sfc | slo | shs | slt
    | sge | lpr | spr | retx | excp | di | ei | eiwait | wait =>
    exact reads_encSpecial (by decide) (by decide) (by decide) (by decide)
  | muluw => exact reads_muluw
  | push | pop | popretSmall | popretLarge => exact reads_stackRow
  | beqDisp9 | bneDisp9 | bcsDisp9 | bccDisp9 | bhiDisp9 | blsDisp9 | bgtDisp9 | bleDisp9 | bfsDisp9 | bfcDisp9
    | bloDisp9 | bhsDisp9 | bltDisp9 | bgeDisp9 | brDisp9 => exact reads_encBranch9 h
  | beqDisp17 | bneDisp17 | bcsDisp17 | bccDisp17 | bhiDisp17 | blsDisp17 | bgtDisp17 | bleDisp17 | bfsDisp17
    | bfcDisp17 | bloDisp17 | bhsDisp17 | bltDisp17 | bgeDisp17 | brDisp17 => exact reads_encBranch17
  | beqDisp21 | bneDisp21 | bcsDisp21 | bccDisp21 | bhiDisp21 | blsDisp21 | bgtDisp21 | bleDisp21 | bfsDisp21
    | bfcDisp21 | bloDisp21 | bhsDisp21 | bltDisp21 | bgeDisp21 | brDisp21 => exact reads_encBranch21 h
  | balSmall => exact reads_balSmall
  | balLarge => exact reads_balLarge h
  | jeqSmall | jneSmall | jcsSmall | jccSmall | jhiSmall | jlsSmall | jgtSmall | jleSmall | jfsSmall | jfcSmall
    | jloSmall | jhsSmall | jltSmall | jgeSmall | jumpSmall => exact reads_encJumpSmall
  | jeqLarge | jneLarge | jcsLarge | jccLarge | jhiLarge | jlsLarge | jgtLarge | jleLarge | jfsLarge | jfcLarge
    | jloLarge | jhsLarge | jltLarge | jgeLarge | jumpLarge => exact reads_encJumpLarge
  | jalSmall => exact reads_jalSmall
  | jalLarge => exact reads_jalLarge
  | loadm | storm => exact reads_blockRow
  | loadbDisp5 | loadwDisp5 | storbDisp5 | storwDisp5 => exact reads_encDisp5 h
  | loadbDisp18 | loadwDisp18 | storbDisp18 | storwDisp18 => exact reads_encDisp18
  | loadbFar | loadwFar | storbFar | storwFar => exact reads_encFar h
  | loadbAbs | loadwAbs | storbAbs | storwAbs => exact reads_encAbs
  | cbitbBase | cbitwBase | sbitbBase | sbitwBase | tbitbBase | tbitwBase | storbImmBase | storwImmBase =>
    exact reads_encBitsBase
  | cbitbDisp16 | cbitwDisp16 | sbitbDisp16 | sbitwDisp16 | tbitbDisp16 | tbitwDisp16 | storbImmDisp16
    | storwImmDisp16 => exact reads_encBitsDisp16
  | cbitbAbs | cbitwAbs | sbitbAbs | sbitwAbs | tbitbAbs | tbitwAbs | storbImmAbs | storwImmAbs =>
    exact reads_encBitsAbs

/-- The encoding has the instruction's length, in words of two bytes (30_encoding.md R92). -/
theorem encode_length (ins : Instr) : 2 * (encode ins).length = ins.length := by
  cases ins <;> rfl

/-- Settles O2: the words of each instruction are read alone, whatever follows them. -/
theorem decodeEncodeRoundTrip : Obligations.DecodeEncodeRoundTrip :=
  fun _ rest h => (encode_reads h).decodeWords_append rest

/-- Settles O4: the words of each instruction are as many as the first one says. -/
theorem lengthFromFirstWord : Obligations.LengthFromFirstWord := by
  intro ins w rest h hwords
  have hreads := encode_reads h
  have hlen := encode_length ins
  rw [hwords] at hreads hlen
  rw [List.length_cons] at hlen
  exact ⟨hreads.instrLength_head.trans hlen, hlen⟩

end Sys2Proof
end

section
/-! SUPPORT. The other direction of the round trip (30_encoding.md R91 to R115): what each branch of the decode
tree answers has an encoding, and it is the words the branch was reached with. -/

namespace Sys2Proof

/-- ins has an encoding, and it is the words ws. -/
structure Encodes (ins : Instr) (ws : List Word) : Prop where
  wellFormed : ins.WellFormed
  words : encode ins = ws

/-! ### Operands the decode tree puts together are such as an encoding holds -/

theorem imm5Ok_append : ∀ (op1 : BitVec 4) (b0 : Bool),
    imm5Ok (op1 ++ BitVec.ofBool b0) = !(op1 == 0b1000#4 && b0) := by decide

theorem disp5Ok_append : ∀ (op4 : BitVec 4) (b0 : Bool),
    disp5Ok (op4 ++ BitVec.ofBool b0) = !(op4.getLsbD 3 && b0) := by decide

theorem farBaseOk_regOf : ∀ op1 : BitVec 4, farBaseOk (regOf op1) = !(op1 == 0b1111#4) := by decide

theorem evenDisp_cmpDispOf (f : Fields) : evenDisp (cmpDispOf f) = true := by
  rw [evenDisp_iff, cmpDispOf, BitVec.getLsbD_append]
  rfl

theorem evenDisp_disp9Of {f : Fields} (h0 : f.b0 = false) : evenDisp (disp9Of f) = true := by
  rw [evenDisp_iff, disp9Of, BitVec.getLsbD_append, h0]
  rfl

theorem evenDisp_disp21Of (f : Fields) (w2 : Word) : evenDisp (disp21Of f w2) = true := by
  rw [evenDisp_iff, disp21Of, BitVec.getLsbD_append]
  rfl

/-! ### The words put together again from the operands cut out of them -/

section
variable (f : Fields) (w2 : Word)

theorem encImm5_imm5Of : encImm5 f.i f.op4 (imm5Of f) (regOf f.op2) =
    [wordOf ⟨false, false, f.i, f.op4, f.op2, f.op1, f.b0⟩] := by
  refine congrArg (fun w => [w]) (BitVec.eq_of_getLsbD_eq fun k hk => ?_)
  simp only [getLsbD_wordOf, imm5Of, regBits_regOf, BitVec.getLsbD_append, BitVec.getLsbD_extractLsb']
  interval_cases k <;> simp

theorem encBranch9_disp9Of : encBranch9 f.op2 (disp9Of f) =
    [wordOf ⟨false, true, false, f.op4, f.op2, f.op1, f.b0⟩] := by
  refine congrArg (fun w => [w]) (BitVec.eq_of_getLsbD_eq fun k hk => ?_)
  simp only [getLsbD_wordOf, disp9Of, BitVec.getLsbD_append, BitVec.getLsbD_extractLsb']
  interval_cases k <;> simp

theorem encBranch17_disp17Of (i : Bool) (h : f.op1.extractLsb' 0 3 = 0b111#3) :
    encBranch17 i f.op2 (disp17Of f w2) = [wordOf ⟨false, false, i, 0b1010#4, f.op2, f.op1, false⟩, w2] := by
  have hop1 : ∀ b : BitVec 4, b.extractLsb' 0 3 = 0b111#3 → BitVec.ofBool (b.getLsbD 3) ++ 0b111#3 = b := by
    decide
  have hlow : (disp17Of f w2).extractLsb' 0 16 = w2 := BitVec.extractLsb'_append_eq_right
  have h16 : (disp17Of f w2).getLsbD 16 = f.op1.getLsbD 3 := by
    simp only [disp17Of, BitVec.getLsbD_append]; simp
  rw [encBranch17, h16, hlow, hop1 f.op1 h]

theorem encBranch21_disp21Of (op4 : BitVec 4) : encBranch21 op4 f.op2 (disp21Of f w2) =
    [wordOf ⟨false, true, true, op4, f.op2, f.op1, false⟩, w2] := by
  refine congrArg₂ (fun w w2 => [w, w2]) (BitVec.eq_of_getLsbD_eq fun k hk => ?_)
    (BitVec.eq_of_getLsbD_eq fun k hk => ?_)
  · simp only [getLsbD_wordOf, disp21Of, BitVec.getLsbD_append, BitVec.getLsbD_extractLsb']
    interval_cases k <;> simp
  · simp only [disp21Of, BitVec.getLsbD_append, BitVec.getLsbD_extractLsb']
    interval_cases k <;> simp

theorem encMovd_imm21Of (h4 : f.op4 = 0b0010#4 ∨ f.op4 = 0b0011#4) :
    encMovd (imm21Of f w2) (regOf f.op2) = [wordOf ⟨false, true, true, f.op4, f.op2, f.op1, false⟩, w2] := by
  refine congrArg₂ (fun w w2 => [w, w2]) (BitVec.eq_of_getLsbD_eq fun k hk => ?_)
    (BitVec.eq_of_getLsbD_eq fun k hk => ?_)
  · simp only [getLsbD_wordOf, imm21Of, regBits_regOf, BitVec.getLsbD_append, BitVec.getLsbD_extractLsb']
    obtain h4 | h4 := h4 <;> rw [h4] <;> interval_cases k <;> simp
  · simp only [imm21Of, BitVec.getLsbD_append, BitVec.getLsbD_extractLsb']
    interval_cases k <;> simp

/-- The fields of op2 of compare-and-branch and of the bit group (30_encoding.md R98, R108). -/
theorem encExt_op2 (op2 : BitVec 4) :
    encExt (op2.extractLsb' 1 2) (op2.getLsbD 3) (op2.getLsbD 0) = op2 := by
  revert op2; decide

theorem encExt_op2Restricted :
    encExt (op2Ext f) (restrictedB3 (op2Restricted f)) (restrictedB0 (op2Restricted f)) = f.op2 := by
  rw [op2Restricted, restrictedB3_of, restrictedB0_of]
  exact encExt_op2 f.op2

theorem encCmpBranch_cmpDispOf : encCmpBranch f.i (op2Ext f) (op2Restricted f) (cmpDispOf f) =
    [wordOf ⟨false, false, f.i, 0b1010#4, f.op2, f.op1, true⟩] := by
  have hdisp : (cmpDispOf f).extractLsb' 1 4 = f.op1 := BitVec.extractLsb'_append_eq_left
  rw [encCmpBranch, encExt_op2Restricted, hdisp]

theorem encBitsBase_op2 : encBitsBase f.i (op2Ext f) f.op1 (op2Restricted f) =
    [wordOf ⟨false, true, f.i, 0b0010#4, f.op2, f.op1, true⟩] := by
  rw [encBitsBase, encExt_op2Restricted]

theorem encBitsDisp16_op2 : encBitsDisp16 f.i (op2Ext f) f.op1 w2 (op2Restricted f) =
    [wordOf ⟨false, false, f.i, 0b0010#4, f.op2, f.op1, true⟩, w2] := by
  rw [encBitsDisp16, encExt_op2Restricted]

theorem encBitsAbs_bitAbs18Of : encBitsAbs f.i (op2Ext f) f.op1 (bitAbs18Of f w2) =
    [wordOf ⟨false, false, f.i, 0b0010#4, f.op2, f.op1, false⟩, w2] := by
  have hlow : (bitAbs18Of f w2).extractLsb' 0 16 = w2 := BitVec.extractLsb'_append_eq_right
  have h17 : (bitAbs18Of f w2).getLsbD 17 = f.op2.getLsbD 3 := by
    simp only [bitAbs18Of, BitVec.getLsbD_append]; simp
  have h16 : (bitAbs18Of f w2).getLsbD 16 = f.op2.getLsbD 0 := by
    simp only [bitAbs18Of, BitVec.getLsbD_append]; simp
  rw [encBitsAbs, hlow, h17, h16, op2Ext, encExt_op2]

/-- The op2 field of a count row (30_encoding.md R111). -/
theorem encCount_op2 (op2 : BitVec 4) :
    encCount (op2.getLsbD 3) (op2.getLsbD 2) (op2.extractLsb' 0 2) = op2 := by
  revert op2; decide

end

section
variable {store i : Bool} {op4 : BitVec 4}

theorem encDisp5_disp5Of (f : Fields) : encDisp5 store i (regOf f.op2) (disp5Of f) (regOf f.op1) =
    [wordOf ⟨true, store, i, f.op4, f.op2, f.op1, f.b0⟩] := by
  refine congrArg (fun w => [w]) (BitVec.eq_of_getLsbD_eq fun k hk => ?_)
  simp only [getLsbD_wordOf, disp5Of, regBits_regOf, BitVec.getLsbD_append, BitVec.getLsbD_extractLsb']
  interval_cases k <;> simp

theorem disp18Of_high (f : Fields) (w2 : Word) : (disp18Of f w2).extractLsb' 16 2 = f.op4.extractLsb' 0 2 :=
  BitVec.extractLsb'_append_eq_left

theorem disp18Of_low (f : Fields) (w2 : Word) : (disp18Of f w2).extractLsb' 0 16 = w2 :=
  BitVec.extractLsb'_append_eq_right

/-- The high half of op4 chooses the form of a 4-byte access (30_encoding.md R101). -/
theorem op4_eq_append {high : BitVec 2} (h3 : op4.getLsbD 3 = high.getLsbD 1)
    (h2 : op4.getLsbD 2 = high.getLsbD 0) : high ++ op4.extractLsb' 0 2 = op4 := by
  revert high op4; decide

theorem encDisp18_disp18Of {f : Fields} {w2 : Word} (h3 : f.op4.getLsbD 3 = true) (h2 : f.op4.getLsbD 2 = false) :
    encDisp18 store i (regOf f.op2) (disp18Of f w2) (regOf f.op1) =
      [wordOf ⟨true, store, i, f.op4, f.op2, f.op1, true⟩, w2] := by
  rw [encDisp18, disp18Of_high, disp18Of_low, op4_eq_append (high := 0b10#2) h3 h2, regBits_regOf, regBits_regOf]

theorem encFar_disp18Of {f : Fields} {w2 : Word} (h3 : f.op4.getLsbD 3 = true) (h2 : f.op4.getLsbD 2 = true) :
    encFar store i (regOf f.op2) (disp18Of f w2) (regOf f.op1) =
      [wordOf ⟨true, store, i, f.op4, f.op2, f.op1, true⟩, w2] := by
  rw [encFar, disp18Of_high, disp18Of_low, op4_eq_append (high := 0b11#2) h3 h2, regBits_regOf, regBits_regOf]

theorem encAbs_disp18Of {f : Fields} {w2 : Word} (h3 : f.op4.getLsbD 3 = true) (h2 : f.op4.getLsbD 2 = true) :
    encAbs store i (regOf f.op2) (disp18Of f w2) =
      [wordOf ⟨true, store, i, f.op4, f.op2, 0b1111#4, true⟩, w2] := by
  rw [encAbs, disp18Of_high, disp18Of_low, op4_eq_append (high := 0b11#2) h3 h2, regBits_regOf]

end

/-! ### The rows of each table -/

section
variable {f : Fields} {w2 : Word} {ins : Instr}

theorem encodes_decodeReg (h : decodeReg f = .ok ins) :
    Encodes ins [wordOf ⟨false, true, f.i, f.op4, f.op2, f.op1, true⟩] := by
  unfold decodeReg at h
  split at h <;> cases h
  all_goals exact ⟨rfl, by simp only [*]; rfl⟩

theorem encodes_decodeImm16 (h : decodeImm16 f w2 = .ok ins) :
    Encodes ins [wordOf ⟨false, false, f.i, f.op4, f.op2, 0b1000#4, true⟩, w2] := by
  unfold decodeImm16 at h
  split at h <;> cases h
  all_goals exact ⟨rfl, by simp only [*]; rfl⟩

theorem encodes_decodeImm5 (himm : imm5Ok (imm5Of f) = true) (h : decodeImm5 f = .ok ins) :
    Encodes ins [wordOf ⟨false, false, f.i, f.op4, f.op2, f.op1, f.b0⟩] := by
  rw [← encImm5_imm5Of]
  simp only [decodeImm5] at h
  split at h
  case h_3 h4 hi =>
    rw [h4, hi]
    split at h <;> cases h
    case isTrue.refl hzero =>
      obtain ⟨h0, h2⟩ := Bool.and_eq_true_iff.1 hzero
      rw [beq_iff_eq.1 h0, beq_iff_eq.1 h2]
      exact ⟨rfl, rfl⟩
    case isFalse.refl hzero =>
      have hnop : (!(imm5Of f == 0 && regOf f.op2 == 0)) = true := by
        rw [Bool.not_eq_true']; exact Bool.eq_false_of_not_eq_true hzero
      exact ⟨Bool.and_eq_true_iff.2 ⟨himm, hnop⟩, rfl⟩
  all_goals cases h
  all_goals exact ⟨himm, by simp only [*]; rfl⟩

/-- The extension fields of compare-and-branch and of the bit group (30_encoding.md R98, R108). -/
theorem ext_cases (ext : BitVec 2) : ext = 0b00#2 ∨ ext = 0b01#2 ∨ ext = 0b10#2 ∨ ext = 0b11#2 := by
  revert ext; decide

theorem encodes_decodeCmpBranch (h : decodeCmpBranch f = .ok ins) :
    Encodes ins [wordOf ⟨false, false, f.i, 0b1010#4, f.op2, f.op1, true⟩] := by
  have heven := evenDisp_cmpDispOf f
  rw [← encCmpBranch_cmpDispOf]
  unfold decodeCmpBranch at h
  obtain hext | hext | hext | hext := ext_cases (op2Ext f) <;> cases hi : f.i
  all_goals
    rw [hext, hi] at h
    cases h
    rw [hext]
    exact ⟨heven, rfl⟩

theorem encodes_decodeScond {cond : BitVec 4} {dest : Reg} (h : decodeScond cond dest = .ok ins) :
    Encodes ins (encSpecial 0b0111#4 cond (regBits dest)) := by
  unfold decodeScond at h
  split at h <;> cases h <;> exact ⟨rfl, rfl⟩

theorem encodes_decodeBranch9 {cond : BitVec 4} {disp : BitVec 9} (heven : evenDisp disp = true)
    (h : decodeBranch9 cond disp = .ok ins) : Encodes ins (encBranch9 cond disp) := by
  unfold decodeBranch9 at h
  split at h <;> cases h <;> exact ⟨heven, rfl⟩

theorem encodes_decodeBranch17 {cond : BitVec 4} {disp : BitVec 17} (h : decodeBranch17 cond disp = .ok ins) :
    Encodes ins (encBranch17 false cond disp) := by
  unfold decodeBranch17 at h
  split at h <;> cases h <;> exact ⟨rfl, rfl⟩

theorem encodes_decodeBranch21 {cond : BitVec 4} {disp : BitVec 21} (heven : evenDisp disp = true)
    (h : decodeBranch21 cond disp = .ok ins) : Encodes ins (encBranch21 0b1010#4 cond disp) := by
  unfold decodeBranch21 at h
  split at h <;> cases h <;> exact ⟨heven, rfl⟩

theorem encodes_decodeJumpSmall {cond : BitVec 4} {target : Reg} (h : decodeJumpSmall cond target = .ok ins) :
    Encodes ins (encJumpSmall false cond target) := by
  unfold decodeJumpSmall at h
  split at h <;> cases h <;> exact ⟨rfl, rfl⟩

theorem encodes_decodeJumpLarge {cond : BitVec 4} {target : Reg} (h : decodeJumpLarge cond target = .ok ins) :
    Encodes ins (encJumpLarge true cond target) := by
  unfold decodeJumpLarge at h
  split at h <;> cases h <;> exact ⟨rfl, rfl⟩

end

theorem encodes_balSmall (link : Reg) (disp : BitVec 17) :
    Encodes (.balSmall link disp) (encBranch17 true (regBits link) disp) := ⟨rfl, rfl⟩

theorem encodes_balLarge {link : Reg} {disp : BitVec 21} (heven : evenDisp disp = true) :
    Encodes (.balLarge link disp) (encBranch21 0b1011#4 (regBits link) disp) := ⟨heven, rfl⟩

theorem encodes_movd (f : Fields) (w2 : Word) (h4 : f.op4 = 0b0010#4 ∨ f.op4 = 0b0011#4) :
    Encodes (.movd (imm21Of f w2) (regOf f.op2)) [wordOf ⟨false, true, true, f.op4, f.op2, f.op1, false⟩, w2] :=
  ⟨rfl, encMovd_imm21Of f w2 h4⟩

theorem encodes_stackRow (b8 b7 : Bool) (rcnt : BitVec 2) (reg : Reg) :
    Encodes (stackRow b8 b7 rcnt reg) (encSpecial 0b0110#4 (encCount b8 b7 rcnt) (regBits reg)) := by
  cases b8 <;> cases b7 <;> exact ⟨rfl, rfl⟩

theorem encodes_blockRow (b7 : Bool) (rcnt : BitVec 2) :
    Encodes (blockRow b7 rcnt) (encSpecial 0b1111#4 (encCount false b7 rcnt) 0b0010#4) := by
  cases b7 <;> exact ⟨rfl, rfl⟩

section
variable (ext : BitVec 2) (i : Bool) (pos : BitVec 4)

theorem encodes_decodeBitsBase (base : Restricted) :
    Encodes (decodeBitsBase ext i pos base) (encBitsBase i ext pos base) := by
  obtain rfl | rfl | rfl | rfl := ext_cases ext <;> cases i <;> exact ⟨rfl, rfl⟩

theorem encodes_decodeBitsDisp16 (disp : Word) (base : Restricted) :
    Encodes (decodeBitsDisp16 ext i pos disp base) (encBitsDisp16 i ext pos disp base) := by
  obtain rfl | rfl | rfl | rfl := ext_cases ext <;> cases i <;> exact ⟨rfl, rfl⟩

theorem encodes_decodeBitsAbs (addr : BitVec 18) :
    Encodes (decodeBitsAbs ext i pos addr) (encBitsAbs i ext pos addr) := by
  obtain rfl | rfl | rfl | rfl := ext_cases ext <;> cases i <;> exact ⟨rfl, rfl⟩

end

section
variable {store i : Bool} {reg base : Reg}

theorem encodes_accessDisp5 {disp : BitVec 5} (h : disp5Ok disp = true) :
    Encodes (accessDisp5 store i reg disp base) (encDisp5 store i reg disp base) := by
  cases store <;> cases i <;> exact ⟨h, rfl⟩

theorem encodes_accessDisp18 {disp : BitVec 18} :
    Encodes (accessDisp18 store i reg disp base) (encDisp18 store i reg disp base) := by
  cases store <;> cases i <;> exact ⟨rfl, rfl⟩

theorem encodes_accessFar {disp : BitVec 18} (h : farBaseOk base = true) :
    Encodes (accessFar store i reg disp base) (encFar store i reg disp base) := by
  cases store <;> cases i <;> exact ⟨h, rfl⟩

theorem encodes_accessAbs {addr : BitVec 18} :
    Encodes (accessAbs store i reg addr) (encAbs store i reg addr) := by
  cases store <;> cases i <;> exact ⟨rfl, rfl⟩

end

/-! ### The branches of the decode tree -/

section
variable {i b0 : Bool} {op4 op2 op1 : BitVec 4} {w2 : Word} {ins : Instr}

/-- What the special format with op4 = 1110 holds (30_encoding.md R100). -/
theorem decodeSpecial14_cases (h : decodeSpecial ⟨false, true, true, 0b1110#4, op2, op1, false⟩ w2 = .ok ins) :
    (op2 = 0b1110#4 ∧ op1 = 0b1111#4 ∧ ins = .di) ∨ (op2 = 0b1111#4 ∧ op1 = 0b1111#4 ∧ ins = .ei) := by
  simp only [decodeSpecial] at h
  change (if _ then _ else _) = _ at h
  split_ifs at h with hdi hei
  · cases h
    obtain ⟨h2, h1⟩ := Bool.and_eq_true_iff.1 hdi
    exact .inl ⟨eq_of_beq h2, eq_of_beq h1, rfl⟩
  · cases h
    obtain ⟨h2, h1⟩ := Bool.and_eq_true_iff.1 hei
    exact .inr ⟨eq_of_beq h2, eq_of_beq h1, rfl⟩

/-- What the special format with op4 = 1111 holds (30_encoding.md R100). -/
theorem decodeSpecial15_cases (h : decodeSpecial ⟨false, true, true, 0b1111#4, op2, op1, false⟩ w2 = .ok ins) :
    (∃ b3 b0, op1 = encExt 0b00#2 b3 b0 ∧ ins = .muluw (restrictedOf b3 b0) (regOf op2)) ∨
    (∃ b7 rcnt, op2 = encCount false b7 rcnt ∧ op1 = 0b0010#4 ∧ ins = blockRow b7 rcnt) ∨
    (op2 = 0b1111#4 ∧ op1 = 0b0011#4 ∧ ins = .eiwait) ∨ (op2 = 0b1111#4 ∧ op1 = 0b1111#4 ∧ ins = .wait) := by
  have hmul : ∀ x : BitVec 4, (!x.getLsbD 2 && !x.getLsbD 1) = true →
      x = encExt 0b00#2 (x.getLsbD 3) (x.getLsbD 0) := by decide
  have hcount := (encCount_op2 op2).symm
  simp only [decodeSpecial] at h
  change (if _ then _ else _) = _ at h
  split_ifs at h with hmuluw hblock hb8 hb7 heiwait heiwait2 _ hwait
  · cases h
    exact .inl ⟨_, _, hmul op1 hmuluw, rfl⟩
  · rw [Bool.eq_false_of_not_eq_true hb8, hb7] at hcount
    cases h
    exact .inr (.inl ⟨_, _, hcount, eq_of_beq hblock, rfl⟩)
  · rw [Bool.eq_false_of_not_eq_true hb8, Bool.eq_false_of_not_eq_true hb7] at hcount
    cases h
    exact .inr (.inl ⟨_, _, hcount, eq_of_beq hblock, rfl⟩)
  · cases h
    exact .inr (.inr (.inl ⟨eq_of_beq heiwait2, eq_of_beq heiwait, rfl⟩))
  · cases h
    obtain ⟨h1, h2⟩ := Bool.and_eq_true_iff.1 hwait
    exact .inr (.inr (.inr ⟨eq_of_beq h2, eq_of_beq h1, rfl⟩))

theorem encodes_special15 (h : decodeSpecial ⟨false, true, true, 0b1111#4, op2, op1, false⟩ w2 = .ok ins) :
    Encodes ins (encSpecial 0b1111#4 op2 op1) := by
  obtain ⟨b3, b0, rfl, rfl⟩ | ⟨b7, rcnt, rfl, rfl, rfl⟩ | ⟨rfl, rfl, rfl⟩ | ⟨rfl, rfl, rfl⟩ :=
    decodeSpecial15_cases h
  · exact ⟨rfl, by simp only [encode, restrictedB3_of, restrictedB0_of, regBits_regOf]⟩
  · exact encodes_blockRow b7 rcnt
  · exact ⟨rfl, rfl⟩
  · exact ⟨rfl, rfl⟩

/-- ins has an encoding, which is w alone or w, w2. -/
def EncodedAs (ins : Instr) (w w2 : Word) : Prop := Encodes ins [w] ∨ Encodes ins [w, w2]

/-- The special format (30_encoding.md R99, R100, R105, R106). -/
theorem encodedAs_special (h : decodeSpecial ⟨false, true, true, op4, op2, op1, false⟩ w2 = .ok ins) :
    EncodedAs ins (wordOf ⟨false, true, true, op4, op2, op1, false⟩) w2 := by
  have hread := h
  simp only [decodeSpecial] at h
  split at h
  case h_1 | h_2 | h_5 | h_6 | h_9 | h_10 => cases h; exact .inl ⟨rfl, rfl⟩
  case h_3 => cases h; exact .inr (encodes_movd ⟨false, true, true, 0b0010#4, op2, op1, false⟩ w2 (.inl rfl))
  case h_4 => cases h; exact .inr (encodes_movd ⟨false, true, true, 0b0011#4, op2, op1, false⟩ w2 (.inr rfl))
  case h_7 =>
    rw [decodeSpecial_stack rfl (encCount_op2 op2).symm] at hread
    cases hread
    have hins := encodes_stackRow (op2.getLsbD 3) (op2.getLsbD 2) (op2.extractLsb' 0 2) (regOf op1)
    rw [encCount_op2] at hins
    exact .inl hins
  case h_8 => exact .inl (encodes_decodeScond h)
  case h_11 =>
    refine .inr ?_
    rw [← encBranch21_disp21Of ⟨false, true, true, 0b1010#4, op2, op1, false⟩]
    exact encodes_decodeBranch21 (evenDisp_disp21Of _ _) h
  case h_12 =>
    cases h
    refine .inr ?_
    rw [← encBranch21_disp21Of ⟨false, true, true, 0b1011#4, op2, op1, false⟩]
    exact encodes_balLarge (evenDisp_disp21Of _ _)
  case h_13 =>
    split_ifs at h with hretx
    obtain ⟨h2, h1⟩ := Bool.and_eq_true_iff.1 hretx
    obtain rfl := eq_of_beq h2
    obtain rfl := eq_of_beq h1
    cases h
    exact .inl ⟨rfl, rfl⟩
  case h_14 =>
    split_ifs at h with hexcp
    obtain rfl := eq_of_beq hexcp
    cases h
    exact .inl ⟨rfl, rfl⟩
  case h_15 =>
    obtain ⟨rfl, rfl, rfl⟩ | ⟨rfl, rfl, rfl⟩ := decodeSpecial14_cases hread <;> exact .inl ⟨rfl, rfl⟩
  case h_16 =>
    obtain rfl : op4 = 0b1111#4 := by
      clear h hread
      simp only [imp_false] at *
      bv_omega
    exact .inl (encodes_special15 hread)

/-- LOADi and STORi (30_encoding.md R101). -/
theorem encodedAs_access {store : Bool}
    (h : decodeFields ⟨true, store, i, op4, op2, op1, b0⟩ w2 = .ok ins) :
    EncodedAs ins (wordOf ⟨true, store, i, op4, op2, op1, b0⟩) w2 := by
  cases hlong : op4.getLsbD 3 && b0 with
  | false =>
    rw [decodeFields_accessDisp5 hlong] at h
    cases h
    refine .inl ?_
    rw [← encDisp5_disp5Of ⟨true, store, i, op4, op2, op1, b0⟩]
    exact encodes_accessDisp5 ((disp5Ok_append op4 b0).trans (congrArg not hlong))
  | true =>
    obtain ⟨h3, rfl⟩ := Bool.and_eq_true_iff.1 hlong
    refine .inr ?_
    cases h2 : op4.getLsbD 2 with
    | false =>
      rw [decodeFields_accessDisp18 h3 h2] at h
      cases h
      rw [← encDisp18_disp18Of (f := ⟨true, store, i, op4, op2, op1, true⟩) h3 h2]
      exact encodes_accessDisp18
    | true =>
      cases habs : op1 == 0b1111#4 with
      | false =>
        rw [decodeFields_accessFar h3 h2 habs] at h
        cases h
        rw [← encFar_disp18Of (f := ⟨true, store, i, op4, op2, op1, true⟩) h3 h2]
        exact encodes_accessFar ((farBaseOk_regOf op1).trans (congrArg not habs))
      | true =>
        obtain rfl := eq_of_beq habs
        rw [decodeFields_accessAbs h3 h2] at h
        cases h
        rw [← encAbs_disp18Of (f := ⟨true, store, i, op4, op2, 0b1111#4, true⟩) h3 h2]
        exact encodes_accessAbs

/-- The space w[15:14] = 01 (30_encoding.md R93). -/
theorem encodedAs_space01 (h : decodeSpace01 ⟨false, true, i, op4, op2, op1, b0⟩ w2 = .ok ins) :
    EncodedAs ins (wordOf ⟨false, true, i, op4, op2, op1, b0⟩) w2 := by
  cases b0 with
  | false =>
    cases i with
    | true => exact encodedAs_special h
    | false =>
      refine .inl ?_
      rw [← encBranch9_disp9Of ⟨false, true, false, op4, op2, op1, false⟩]
      exact encodes_decodeBranch9 (evenDisp_disp9Of rfl) h
  | true =>
    simp only [decodeSpace01, Bool.not_true, Bool.false_eq_true, if_false] at h
    refine .inl ?_
    split_ifs at h with hbits hjump hjal
    · obtain rfl := eq_of_beq hbits
      cases h
      rw [← encBitsBase_op2 ⟨false, true, i, 0b0010#4, op2, op1, true⟩]
      exact encodes_decodeBitsBase _ _ _ _
    · obtain rfl := eq_of_beq hjump
      cases h
      rw [hjal]
      exact ⟨rfl, rfl⟩
    · obtain rfl := eq_of_beq hjump
      rw [Bool.eq_false_of_not_eq_true hjal]
      have hins := encodes_decodeJumpSmall h
      exact hins
    · have hins := encodes_decodeReg h
      exact hins

/-- The space w[15:14] = 00 (30_encoding.md R93). -/
theorem encodedAs_space00 (h : decodeSpace00 ⟨false, false, i, op4, op2, op1, b0⟩ w2 = .ok ins) :
    EncodedAs ins (wordOf ⟨false, false, i, op4, op2, op1, b0⟩) w2 := by
  simp only [decodeSpace00] at h
  split_ifs at h with hbits hdisp16 hbranch hcmp hlow hbal hlarge hcond hescape
  · obtain rfl := eq_of_beq hbits
    cases h
    refine .inr ?_
    rw [hdisp16, ← encBitsDisp16_op2 ⟨false, false, i, 0b0010#4, op2, op1, true⟩]
    exact encodes_decodeBitsDisp16 _ _ _ _ _
  · obtain rfl := eq_of_beq hbits
    cases h
    refine .inr ?_
    rw [Bool.eq_false_of_not_eq_true hdisp16,
      ← encBitsAbs_bitAbs18Of ⟨false, false, i, 0b0010#4, op2, op1, false⟩]
    exact encodes_decodeBitsAbs _ _ _ _
  · obtain rfl := eq_of_beq hbranch
    rw [hcmp]
    have hins := encodes_decodeCmpBranch h
    exact .inl hins
  · obtain rfl := eq_of_beq hbranch
    cases h
    refine .inr ?_
    rw [Bool.eq_false_of_not_eq_true hcmp, hbal,
      ← encBranch17_disp17Of ⟨false, false, true, 0b1010#4, op2, op1, false⟩ w2 true (eq_of_beq hlow)]
    exact encodes_balSmall _ _
  · obtain rfl := eq_of_beq hbranch
    refine .inr ?_
    rw [Bool.eq_false_of_not_eq_true hcmp, Bool.eq_false_of_not_eq_true hbal,
      ← encBranch17_disp17Of ⟨false, false, false, 0b1010#4, op2, op1, false⟩ w2 false (eq_of_beq hlow)]
    exact encodes_decodeBranch17 h
  · obtain ⟨h4, hi⟩ := Bool.and_eq_true_iff.1 hlarge
    obtain rfl := eq_of_beq h4
    rw [Bool.not_eq_true'] at hi
    rw [hi, hcond]
    have hins := encodes_decodeJumpLarge h
    exact .inl hins
  · obtain ⟨h4, hi⟩ := Bool.and_eq_true_iff.1 hlarge
    obtain rfl := eq_of_beq h4
    rw [Bool.not_eq_true'] at hi
    rw [hi, Bool.eq_false_of_not_eq_true hcond]
    cases h
    exact .inl ⟨rfl, rfl⟩
  · obtain ⟨h1, hb0⟩ := Bool.and_eq_true_iff.1 hescape
    obtain rfl := eq_of_beq h1
    rw [hb0]
    have hins := encodes_decodeImm16 h
    exact .inr hins
  · have himm : imm5Ok (imm5Of ⟨false, false, i, op4, op2, op1, b0⟩) = true :=
      (imm5Ok_append op1 b0).trans (congrArg not (Bool.eq_false_of_not_eq_true hescape))
    have hins := encodes_decodeImm5 himm h
    exact .inl hins

/-- Every branch of the decode tree (30_encoding.md R93). -/
theorem encodedAs_decodeFields {f : Fields} (h : decodeFields f w2 = .ok ins) : EncodedAs ins (wordOf f) w2 := by
  obtain ⟨b15, b14, i, op4, op2, op1, b0⟩ := f
  cases b15 with
  | true => exact encodedAs_access h
  | false =>
    cases b14 with
    | true => exact encodedAs_space01 h
    | false => exact encodedAs_space00 h

end

/-- Settles O3, by the branches of the decode tree. -/
theorem encodeDecodeRoundTrip : Obligations.EncodeDecodeRoundTrip := by
  intro w w2 ins h
  have hlen := encode_length ins
  obtain ⟨hwf, hwords⟩ | ⟨hwf, hwords⟩ := encodedAs_decodeFields h
  · rw [wordOf_fieldsOf] at hwords
    rw [hwords] at hlen
    exact ⟨hwf, .inl ⟨hwords, hlen.symm⟩⟩
  · rw [wordOf_fieldsOf] at hwords
    rw [hwords] at hlen
    exact ⟨hwf, .inr ⟨hwords, hlen.symm⟩⟩

end Sys2Proof
end

section
/-! SUPPORT. Words that are no instruction (30_encoding.md R113, R114; 60_exceptions.md R253, R265, R271;
92_eei_decisions.md D7), and sample words. -/

namespace Sys2Proof

/-! ### The patterns of Table B-1 -/

/-- A first word of the special format goes to its branch of the decode tree (30_encoding.md R93). -/
theorem decode_special (op4 op2 op1 : BitVec 4) (w2 : Word) :
    decode (wordOf ⟨false, true, true, op4, op2, op1, false⟩) w2 =
      decodeSpecial ⟨false, true, true, op4, op2, op1, false⟩ w2 := by
  rw [decode, fieldsOf_wordOf]
  rfl

/-- With op4 = 1111, bit 1 of op1 is 0 but in LOADM, STORM, EIWAIT and WAIT (30_encoding.md R100). -/
theorem special15_op1 {op2 op1 : BitVec 4} {w2 : Word} {ins : Instr}
    (h : decodeSpecial ⟨false, true, true, 0b1111#4, op2, op1, false⟩ w2 = .ok ins) :
    op1.getLsbD 1 = false ∨ (op2.getLsbD 3 = false ∧ op1 = 0b0010#4) ∨
    (op2 = 0b1111#4 ∧ (op1 = 0b0011#4 ∨ op1 = 0b1111#4)) := by
  have hmul : ∀ b3 b0, (encExt 0b00#2 b3 b0).getLsbD 1 = false := by decide
  obtain ⟨b3, b0, rfl, -⟩ | ⟨b7, rcnt, rfl, rfl, -⟩ | ⟨rfl, rfl, -⟩ | ⟨rfl, rfl, -⟩ := decodeSpecial15_cases h
  · exact .inl (hmul b3 b0)
  · exact .inr (.inl ⟨(encCount_fields false b7 rcnt).1, rfl⟩)
  · exact .inr (.inr ⟨rfl, .inl rfl⟩)
  · exact .inr (.inr ⟨rfl, .inr rfl⟩)

/-- The special-format patterns Table B-1 names as undefined (30_encoding.md R113). -/
def TableB1 (op4 op2 op1 : BitVec 4) : Prop :=
  (op4 = 15 ∧ op2 ≠ 15 ∧ op1 = 3) ∨ (op4 = 15 ∧ op2.getLsbD 3 = true ∧ op1 = 2) ∨
  (op4 = 15 ∧ (op1 = 10 ∨ op1 = 11)) ∨ (op4 = 14 ∧ op2.getLsbD 1 = false)

theorem not_tableB1_of_decodeSpecial {op4 op2 op1 : BitVec 4} {w2 : Word} {ins : Instr}
    (h : decodeSpecial ⟨false, true, true, op4, op2, op1, false⟩ w2 = .ok ins) : ¬ TableB1 op4 op2 op1 := by
  rintro (⟨rfl, h2, rfl⟩ | ⟨rfl, h8, rfl⟩ | ⟨rfl, h1⟩ | ⟨rfl, h6⟩)
  · obtain hbit | ⟨-, hblock⟩ | ⟨hop2, -⟩ := special15_op1 h
    · exact absurd hbit (by decide)
    · exact absurd hblock (by decide)
    · exact h2 hop2
  · obtain hbit | ⟨h3, -⟩ | ⟨-, hwait⟩ := special15_op1 h
    · exact absurd hbit (by decide)
    · rw [h3] at h8
      exact Bool.false_ne_true h8
    · exact absurd hwait (by decide)
  · have hother := special15_op1 h
    obtain rfl | rfl := h1 <;> simp at hother
  · obtain ⟨rfl, -, -⟩ | ⟨rfl, -, -⟩ := decodeSpecial14_cases h <;> exact absurd h6 (by decide)

/-- The patterns of Table B-1 are no instruction, whatever word follows (30_encoding.md R113). -/
theorem decode_tableB1 {op4 op2 op1 : BitVec 4} (h : TableB1 op4 op2 op1) (w2 : Word) :
    ∃ e, decode (wordOf ⟨false, true, true, op4, op2, op1, false⟩) w2 = .error e := by
  rw [decode_special]
  cases hread : decodeSpecial ⟨false, true, true, op4, op2, op1, false⟩ w2 with
  | error e => exact ⟨e, rfl⟩
  | ok ins => exact absurd h (not_tableB1_of_decodeSpecial hread)

end Sys2Proof

namespace Sys2Proof.Machine

/-! ### The UND trap -/

theorem State.marked_of_stale {s t : State} (h : t.stale = s.stale) (a : Addr) : t.marked a = s.marked a := by
  rw [State.marked, State.marked, h]

/-- An unmarked word where RAM or ROM stands is fetched as it stands there (20_memory.md R66). -/
theorem State.fetchWord_eq {s : State} {a : Addr} {w : Word} (hs : s.storedWord a) (h0 : s.marked a = false)
    (h1 : s.marked (a + 1) = false) (hw : w.toNat = s.wordAt a) : s.fetchWord a = (w, s) := by
  rw [State.fetchWord_unmarked hs h0 h1]
  exact congrArg (·, s) (BitVec.eq_of_toNat_eq ((toNat_wordOfBytes _ _).trans hw.symm))

/-- Whatever the fetch reads after it, a first word that is no instruction gives none. -/
theorem State.fetch_undefined {s : State} {w : Word} (hfetch : s.fetchWord s.pc = (w, s))
    (hw : ∀ w2, ∃ e, decode w w2 = .error e) : ∃ e, s.fetch.1 = .error e := by
  simp only [State.fetch, hfetch]
  split
  · exact hw _
  · exact hw 0

/-- An undefined instruction takes UND with its own address (60_exceptions.md R253, R265, R271). -/
theorem State.executeInstruction_undefined {s : State} {e : Undefined} (h : s.beginInstruction.fetch.1 = .error e) :
    s.executeInstruction = .next (s.beginInstruction.fetch.2.takeException .und s.pc) := by
  simp only [State.executeInstruction, h]

/-- Settles O5, by the inversion of the special format and the fetch of an unmarked word. -/
theorem undefinedInstructionTraps : Obligations.UndefinedInstructionTraps := by
  refine ⟨fun op4 op2 op1 w2 h => decode_tableB1 h w2, fun s w hquiet hstored h0 h1 hword hw => ?_⟩
  have hfetch : s.sample.beginInstruction.fetchWord s.pc = (w, s.sample.beginInstruction) :=
    State.fetchWord_eq ((storedWord_of_platform (by simp) _).2 hstored)
      ((State.marked_of_stale (by simp) _).trans h0) ((State.marked_of_stale (by simp) _).trans h1)
      (hword.trans (State.wordAt_of_mem (by simp) _).symm)
  obtain ⟨e, he⟩ := State.fetch_undefined (s := s.sample.beginInstruction) (by simpa using hfetch) hw
  refine ⟨s.sample.beginInstruction.fetch.2.fresh, ?_⟩
  rw [step_quiet hquiet, State.executeInstruction_undefined he, ← State.fetch_state, State.sample_pc]

/-- Settles O1: each word evaluates to its instruction. -/
theorem decodeSampleWords : Obligations.DecodeSampleWords :=
  ⟨rfl, rfl, rfl, rfl, rfl, rfl, rfl, rfl, rfl, rfl, rfl, rfl⟩

end Sys2Proof.Machine
end

section
/-! SUPPORT. The words of the formats as numbers (30_encoding.md R91 to R96, R99, R100), that a first word of
length 2 is decoded alone (R92), and from both the words an instruction has. -/

namespace Sys2Proof

/-! ### Fields as numbers -/

theorem toNat_append_eq_mul_add {n m : Nat} (hi : BitVec n) (lo : BitVec m) :
    (hi ++ lo).toNat = hi.toNat * 2 ^ m + lo.toNat := by
  rw [BitVec.toNat_append, ← Nat.shiftLeft_add_eq_or_of_lt lo.isLt, Nat.shiftLeft_eq]

/-- Each field of a first word at its place (30_encoding.md R91). -/
theorem toNat_wordOf (f : Fields) : (wordOf f).toNat =
    f.b15.toNat * 2 ^ 15 + f.b14.toNat * 2 ^ 14 + f.i.toNat * 2 ^ 13 + f.op4.toNat * 2 ^ 9 + f.op2.toNat * 2 ^ 5 +
      f.op1.toNat * 2 + f.b0.toNat := by
  simp only [wordOf, toNat_append_eq_mul_add, BitVec.toNat_ofBool]
  ring

@[simp] theorem toNat_regBits (r : Reg) : (regBits r).toNat = r.val := rfl

theorem toNat_getLsbD {n : Nat} (w : BitVec n) (k : Nat) : (w.getLsbD k).toNat = w.toNat / 2 ^ k % 2 :=
  Nat.toNat_testBit _ _

theorem toNat_extractLsb' {n : Nat} (w : BitVec n) (k len : Nat) :
    (w.extractLsb' k len).toNat = w.toNat / 2 ^ k % 2 ^ len := by
  rw [BitVec.extractLsb'_toNat, Nat.shiftRight_eq_div_pow]

/-! ### One-word instructions -/

section
variable {store i b0 : Bool} {op4 op2 op1 : BitVec 4}

/-- Only the disp5 form of LOADi and STORi is one word (30_encoding.md R92, R101). -/
theorem decodeFields_short_access (h : instrLength (wordOf ⟨true, store, i, op4, op2, op1, b0⟩) = 2) (w2 : Word) :
    decodeFields ⟨true, store, i, op4, op2, op1, b0⟩ w2 = decodeFields ⟨true, store, i, op4, op2, op1, b0⟩ 0 := by
  have hform : (op4.getLsbD 3 && b0) = false := Bool.eq_false_of_not_eq_true fun hlong => by
    rw [instrLength_access, if_pos hlong] at h
    exact absurd h (by decide)
  cases store
  · simp only [decodeFields, decodeLoad, hform, Bool.not_false, if_true]
  · simp only [decodeFields, decodeStore, hform, Bool.not_false, if_true]

/-- The two-word rows of the special format are MOVD and the large-model branches (30_encoding.md R92, R100). -/
theorem decodeSpecial_short {f : Fields} (h2 : f.op4 ≠ 0b0010#4) (h3 : f.op4 ≠ 0b0011#4) (h10 : f.op4 ≠ 0b1010#4)
    (h11 : f.op4 ≠ 0b1011#4) (w2 : Word) : decodeSpecial f w2 = decodeSpecial f 0 := by
  simp only [decodeSpecial]
  split
  case h_3 h => exact absurd h h2
  case h_4 h => exact absurd h h3
  case h_11 h => exact absurd h h10
  case h_12 h => exact absurd h h11
  all_goals rfl

/-- In the space 01 only the special format has two-word rows (30_encoding.md R92, R93). -/
theorem decodeFields_short_space01 (h : instrLength (wordOf ⟨false, true, i, op4, op2, op1, b0⟩) = 2) (w2 : Word) :
    decodeFields ⟨false, true, i, op4, op2, op1, b0⟩ w2 = decodeFields ⟨false, true, i, op4, op2, op1, b0⟩ 0 := by
  cases b0 with
  | true => rfl
  | false =>
    cases i with
    | false => rfl
    | true => refine decodeSpecial_short ?_ ?_ ?_ ?_ w2 <;> rintro rfl <;> exact absurd h (by simp [instrLength])

/-- In the space 00 the bit group, the disp17 branches and the medium immediate have two words (30_encoding.md
R92, R93). -/
theorem decodeFields_short_space00 (h : instrLength (wordOf ⟨false, false, i, op4, op2, op1, b0⟩) = 2) (w2 : Word) :
    decodeFields ⟨false, false, i, op4, op2, op1, b0⟩ w2 = decodeFields ⟨false, false, i, op4, op2, op1, b0⟩ 0 := by
  by_cases hbits : op4 = 0b0010#4
  · subst hbits
    exact absurd h (by simp [instrLength])
  by_cases hbranch : op4 = 0b1010#4
  · subst hbranch
    cases b0 with
    | true => rfl
    | false => exact absurd h (by simp [instrLength])
  cases hjump : op4 == 0b1011#4 && !i with
  | true => simp only [decodeFields, decodeSpace00, hjump, beq_false_of_ne hbits, beq_false_of_ne hbranch, ite_true,
      Bool.false_eq_true, ite_false]
  | false =>
    have himm : (op1 == 0b1000#4 && b0) = false := Bool.eq_false_of_not_eq_true fun hmedium =>
      absurd h (by simp only [instrLength, fieldsOf_wordOf, hjump, hmedium]; simp [hbits, hbranch])
    simp only [decodeFields, decodeSpace00, hjump, himm, beq_false_of_ne hbits, beq_false_of_ne hbranch,
      Bool.false_eq_true, ite_false]

/-- A first word of length 2 is decoded without the word after it (30_encoding.md R92). -/
theorem decode_short {w : Word} (h : instrLength w = 2) (w2 : Word) : decode w w2 = decode w 0 := by
  obtain ⟨⟨b15, b14, i, op4, op2, op1, b0⟩, rfl⟩ : ∃ f, wordOf f = w := ⟨fieldsOf w, wordOf_fieldsOf w⟩
  rw [decode, decode, fieldsOf_wordOf]
  cases b15 with
  | true => exact decodeFields_short_access h w2
  | false =>
    cases b14 with
    | true => exact decodeFields_short_space01 h w2
    | false => exact decodeFields_short_space00 h w2

end

/-! ### What the words of a well-formed instruction are decoded to -/

section
variable {ins : Instr} {w : Word}

theorem decode_of_encode_one (h : ins.WellFormed) (hw : encode ins = [w]) (w2 : Word) : decode w w2 = .ok ins := by
  have hread := encode_reads h
  rw [hw] at hread
  have hlen : instrLength w = 2 := hread.instrLength_head
  have hdec := hread.decodeWords_append []
  rw [List.append_nil, decodeWords, hlen] at hdec
  exact (decode_short hlen w2).trans hdec

theorem decode_of_encode_two {w2 : Word} (h : ins.WellFormed) (hw : encode ins = [w, w2]) : decode w w2 = .ok ins := by
  have hread := encode_reads h
  rw [hw] at hread
  have hlen : instrLength w = 4 := hread.instrLength_head
  have hdec := hread.decodeWords_append []
  rwa [List.append_nil, decodeWords, hlen] at hdec

end

end Sys2Proof

namespace Sys2Proof.Machine

/-! ### The words of an instruction, as numbers -/

section
variable {ins : Instr} {n : Nat}

theorem wordIs_of_encode {f : Fields} (h : ins.WellFormed) (hw : encode ins = [wordOf f])
    (hn : (wordOf f).toNat = n) : WordIs n ins := by
  subst hn
  intro w2
  rw [BitVec.ofNat_toNat, BitVec.setWidth_eq]
  exact decode_of_encode_one h hw w2

theorem wordsAre_of_encode {f : Fields} {w2 : Word} {n2 : Nat} (h : ins.WellFormed)
    (hw : encode ins = [wordOf f, w2]) (hn : (wordOf f).toNat = n) (hn2 : w2.toNat = n2) : WordsAre n n2 ins := by
  subst hn hn2
  rw [WordsAre, BitVec.ofNat_toNat, BitVec.ofNat_toNat, BitVec.setWidth_eq, BitVec.setWidth_eq]
  exact decode_of_encode_two h hw

variable {i : Bool} {op4 : BitVec 4} {src dest : Reg} {base : Nat}

/-- The register-register format (30_encoding.md R94). -/
theorem wordIs_encReg (h : ins.WellFormed) (hw : encode ins = encReg i op4 src dest)
    (hbase : 0x4001 + i.toNat * 2 ^ 13 + op4.toNat * 2 ^ 9 = base) :
    WordIs (base + 32 * dest.val + 2 * src.val) ins := by
  refine wordIs_of_encode h hw ?_
  rw [toNat_wordOf]
  simp only [toNat_regBits, Bool.toNat_true, Bool.toNat_false]
  omega

/-- The short-immediate format (30_encoding.md R95). -/
theorem wordIs_encImm5 {imm : BitVec 5} (h : ins.WellFormed) (hw : encode ins = encImm5 i op4 imm dest)
    (hbase : i.toNat * 2 ^ 13 + op4.toNat * 2 ^ 9 = base) :
    WordIs (base + 32 * dest.val + imm.toNat) ins := by
  refine wordIs_of_encode h hw ?_
  have hcut : (imm.extractLsb' 1 4).toNat * 2 + (imm.getLsbD 0).toNat = imm.toNat := by
    have himm := imm.isLt
    rw [toNat_extractLsb', toNat_getLsbD]
    omega
  rw [toNat_wordOf, ← hbase, ← hcut, toNat_regBits, Bool.toNat_false]
  ring

/-- The medium-immediate format (30_encoding.md R96). -/
theorem wordsAre_encImm16 {imm : Word} (h : ins.WellFormed) (hw : encode ins = encImm16 i op4 imm dest)
    (hbase : 0x11 + i.toNat * 2 ^ 13 + op4.toNat * 2 ^ 9 = base) :
    WordsAre (base + 32 * dest.val) imm.toNat ins := by
  refine wordsAre_of_encode h hw ?_ rfl
  rw [toNat_wordOf]
  simp only [toNat_regBits, Bool.toNat_true, Bool.toNat_false, BitVec.toNat_ofNat]
  omega

/-- The special format with two register fields (30_encoding.md R100). -/
theorem wordIs_encSpecial_regs (h : ins.WellFormed) (hw : encode ins = encSpecial op4 (regBits dest) (regBits src))
    (hbase : 0x6000 + op4.toNat * 2 ^ 9 = base) : WordIs (base + 32 * dest.val + 2 * src.val) ins := by
  refine wordIs_of_encode h hw ?_
  rw [toNat_wordOf]
  simp only [toNat_regBits, Bool.toNat_true, Bool.toNat_false]
  omega

end

/-- Bit 20 of the immediate of MOVD stands in op4, bits 16 and 19:17 in op1, the others in the second word
(30_encoding.md R99). -/
theorem wordsAre_movd (imm : BitVec 21) (dest : Reg) :
    WordsAre (0x6400 + imm.toNat / 2 ^ 20 * 512 + 32 * dest.val + imm.toNat / 2 ^ 16 % 2 * 16 +
      imm.toNat / 2 ^ 17 % 8 * 2) (imm.toNat % 2 ^ 16) (.movd imm dest) := by
  have himm := imm.isLt
  refine wordsAre_of_encode rfl rfl ?_ ?_
  · rw [toNat_wordOf]
    simp only [toNat_append_eq_mul_add, toNat_regBits, toNat_extractLsb', toNat_getLsbD, BitVec.toNat_ofBool,
      BitVec.toNat_ofNat, Bool.toNat_true, Bool.toNat_false]
    omega
  · rw [toNat_extractLsb', pow_zero, Nat.div_one]

end Sys2Proof.Machine
end

section
/-! SUPPORT. MOVB, MOVW, MOVD, MOVXB and MOVZB (40_moves.md R130 to R134): the result of each is the value its rule
names, so the effect is that of the shared operation that writes it. -/

namespace Sys2Proof.Machine

theorem toNat_signExtend {w : Nat} (n : Nat) (v : BitVec w) : (v.signExtend n).toNat = (v.toInt % 2 ^ n).toNat := by
  rw [BitVec.signExtend, BitVec.toNat_ofInt]
  norm_cast

/-- Sign-extension of a source byte (40_moves.md R133). -/
theorem toNat_signExtend_regByte (s : State) (r : Reg) :
    ((s.regByte r).signExtend 16).toNat = (signedOf 8 (s.low 8 r) % 2 ^ 16).toNat := by
  rw [toNat_signExtend, toInt_eq_signedOf (by decide), toNat_regByte]

/-- Zero-extension of a source byte (40_moves.md R134). -/
theorem toNat_setWidth_regByte (s : State) (r : Reg) : ((s.regByte r).setWidth 16).toNat = s.low 8 r := by
  rw [BitVec.toNat_setWidth_of_le (by decide), toNat_regByte]

/-- The three forms of MOVB (40_moves.md R130). -/
theorem movb_allForms (s : State) (d : Reg) :
    AllForms 8 s (Instr.movbReg · d) (Instr.movbImm5 · d) (Instr.movbImm16 · d) (ResultEffect 8 s d) :=
  ⟨fun r => resultByte_effect s d _ _ 2 (toNat_regByte s r),
    fun imm => resultByte_effect s d _ _ 2 (toNat_immByte_short imm),
    fun imm => resultByte_effect s d _ _ 4 (toNat_immByte imm)⟩

/-- The three forms of MOVW (40_moves.md R131). -/
theorem movw_allForms (s : State) (d : Reg) :
    AllForms 16 s (Instr.movwReg · d) (Instr.movwImm5 · d) (Instr.movwImm16 · d) (ResultEffect 16 s d) :=
  ⟨fun r => resultWord_effect s d _ _ 2 (low_16 s r).symm,
    fun imm => resultWord_effect s d _ _ 2 (toNat_shortImm imm),
    fun imm => resultWord_effect s d _ _ 4 (Nat.mod_eq_of_lt imm.isLt).symm⟩

/-- MOVD writes its immediate, zero-extended, to the pair (40_moves.md R132). -/
theorem movd_effect (s : State) (imm : BitVec 21) {d : Reg} (hd : d ≠ 15) :
    PairEffect s d imm.toNat 4 (exec (.movd imm d) s) :=
  resultPair_effect s d hd _ _ 4 (BitVec.toNat_setWidth_of_le (by decide))

/-- Settles O23: each form writes the value of its source operand, and each format has its words. -/
theorem moveCompletes : Obligations.MoveCompletes := by
  refine ⟨fun s d => ⟨movb_allForms s d, movw_allForms s d⟩,
    fun d r => ⟨wordIs_encReg rfl rfl rfl, wordIs_encReg rfl rfl rfl⟩, fun d imm himm => ?_,
    fun d imm => ⟨wordsAre_encImm16 rfl rfl rfl, wordsAre_encImm16 rfl rfl rfl⟩⟩
  have hok : imm5Ok imm = true := bne_iff_ne.2 himm
  exact ⟨wordIs_encImm5 hok rfl rfl, wordIs_encImm5 hok rfl rfl⟩

/-- Settles O24: the pair takes the immediate, and the pair of R15 is refused. -/
theorem movdCompletes : Obligations.MovdCompletes :=
  ⟨fun s imm _ => ⟨movd_effect s imm, fun hd => if_pos hd⟩, wordsAre_movd⟩

/-- Settles O25: the destination takes the extended byte of the source. -/
theorem extendingMovesComplete : Obligations.ExtendingMovesComplete :=
  ⟨fun s r d => ⟨resultWord_effect s d _ _ 2 (toNat_signExtend_regByte s r),
      resultWord_effect s d _ _ 2 (toNat_setWidth_regByte s r)⟩,
    fun _ _ => ⟨wordIs_encSpecial_regs rfl rfl rfl, wordIs_encSpecial_regs rfl rfl rfl⟩⟩

end Sys2Proof.Machine
end

section
/-! SUPPORT. ADD, ADDU, ADDC, SUB and SUBC (41_arithmetic.md R140 to R144): the three forms of an instruction run one
operation on their operand, and the effect of that operation is a sum or a difference with its flags. -/

namespace Sys2Proof.Machine

/-! ### The three operand forms -/

section
variable {s : State} {reg : Reg → Instr} {short : BitVec 5 → Instr} {medium : BitVec 16 → Instr}
  {E : Nat → Nat → Result → Prop}

/-- A byte operation has its effect in the three forms: each runs it on the byte its operand names (30_encoding.md
R94 to R96). -/
theorem allForms_byte {f : Byte → Nat → Result} (heffect : ∀ b len, E b.toNat len (f b len))
    (hreg : ∀ r, exec (reg r) s = f (s.regByte r) 2 := by intros; rfl)
    (hshort : ∀ imm, exec (short imm) s = f (immByte (shortImm imm)) 2 := by intros; rfl)
    (hmedium : ∀ imm, exec (medium imm) s = f (immByte imm) 4 := by intros; rfl) :
    AllForms 8 s reg short medium E := by
  refine ⟨fun r => ?_, fun imm => ?_, fun imm => ?_⟩
  · rw [hreg, ← toNat_regByte]
    exact heffect _ 2
  · rw [hshort, ← toNat_immByte_short]
    exact heffect _ 2
  · rw [hmedium, ← toNat_immByte]
    exact heffect _ 4

/-- A word operation has its effect in the three forms: each runs it on the word its operand names (30_encoding.md
R94 to R96). -/
theorem allForms_word {f : Word → Nat → Result} (heffect : ∀ b len, E b.toNat len (f b len))
    (hreg : ∀ r, exec (reg r) s = f (s.reg r) 2 := by intros; rfl)
    (hshort : ∀ imm, exec (short imm) s = f (shortImm imm) 2 := by intros; rfl)
    (hmedium : ∀ imm, exec (medium imm) s = f imm 4 := by intros; rfl) :
    AllForms 16 s reg short medium E := by
  refine ⟨fun r => ?_, fun imm => ?_, fun imm => ?_⟩
  · rw [hreg, low_16]
    exact heffect _ 2
  · rw [hshort, ← toNat_shortImm]
    exact heffect _ 2
  · rw [hmedium, Nat.mod_eq_of_lt imm.isLt]
    exact heffect _ 4

end

/-! ### Sums and differences -/

section
variable (s : State) (d : Reg) (c : Bool)

theorem addByte_effect (b : Byte) (len : Nat) : AddEffect 8 s d c.toNat b.toNat len
    (.next (s.arithByte d (addWith (s.regByte d) b c) (BitVec.ofNat 21 len))) := by
  have hspec := addWith_spec (by decide) (s.regByte d) b c
  rw [toNat_regByte] at hspec
  obtain ⟨hsum, hcarry, hoverflow⟩ := hspec
  exact arithByte_effect s d _ _ _ _ len hsum hcarry hoverflow

theorem addWord_effect (b : Word) (len : Nat) : AddEffect 16 s d c.toNat b.toNat len
    (.next (s.arithWord d (addWith (s.reg d) b c) (BitVec.ofNat 21 len))) := by
  have hspec := addWith_spec (by decide) (s.reg d) b c
  rw [← low_16] at hspec
  obtain ⟨hsum, hcarry, hoverflow⟩ := hspec
  exact arithWord_effect s d _ _ _ _ len hsum hcarry hoverflow

theorem subByte_effect (b : Byte) (len : Nat) : SubEffect 8 s d c.toNat b.toNat len
    (.next (s.arithByte d (subWith (s.regByte d) b c) (BitVec.ofNat 21 len))) := by
  have hspec := subWith_spec (by decide) (s.regByte d) b c
  rw [toNat_regByte] at hspec
  obtain ⟨hdifference, hborrow, hoverflow⟩ := hspec
  exact arithByte_effect s d _ _ _ _ len hdifference hborrow hoverflow

theorem subWord_effect (b : Word) (len : Nat) : SubEffect 16 s d c.toNat b.toNat len
    (.next (s.arithWord d (subWith (s.reg d) b c) (BitVec.ofNat 21 len))) := by
  have hspec := subWith_spec (by decide) (s.reg d) b c
  rw [← low_16] at hspec
  obtain ⟨hdifference, hborrow, hoverflow⟩ := hspec
  exact arithWord_effect s d _ _ _ _ len hdifference hborrow hoverflow

end

/-- ADDUB writes the sum and no flag (41_arithmetic.md R141). -/
theorem addUnflaggedByte_effect (s : State) (d : Reg) (b : Byte) (len : Nat) :
    ResultEffect 8 s d ((s.low 8 d + b.toNat) % 2 ^ 8) len
      (.next (s.resultByte d (s.regByte d + b) (BitVec.ofNat 21 len))) :=
  resultByte_effect s d _ _ len (by rw [BitVec.toNat_add, toNat_regByte])

/-- ADDUW writes the sum and no flag (41_arithmetic.md R141). -/
theorem addUnflaggedWord_effect (s : State) (d : Reg) (b : Word) (len : Nat) :
    ResultEffect 16 s d ((s.low 16 d + b.toNat) % 2 ^ 16) len
      (.next (s.resultWord d (s.reg d + b) (BitVec.ofNat 21 len))) :=
  resultWord_effect s d _ _ len (by rw [BitVec.toNat_add, low_16])

/-- Settles O26: each form adds its operand, with the carry-in 0 or C, or without writing a flag. -/
theorem addCompletes : Obligations.AddCompletes := fun s d =>
  ⟨allForms_byte (addByte_effect s d false), allForms_word (addWord_effect s d false),
    allForms_byte (addByte_effect s d (s.flag psrC)), allForms_word (addWord_effect s d (s.flag psrC)),
    allForms_byte (addUnflaggedByte_effect s d), allForms_word (addUnflaggedWord_effect s d)⟩

/-- Settles O27: each form subtracts its operand, with the borrow-in 0 or C. -/
theorem subtractCompletes : Obligations.SubtractCompletes := fun s d =>
  ⟨allForms_byte (subByte_effect s d false), allForms_word (subWord_effect s d false),
    allForms_byte (subByte_effect s d (s.flag psrC)), allForms_word (subWord_effect s d (s.flag psrC))⟩

end Sys2Proof.Machine
end

section
/-! SUPPORT. MUL, MULSB, MULSW and MULUW where no interrupt is accepted during them (41_arithmetic.md R145, R146,
R151, R152): the product as a number, and that the multiply completes as the register write of it. -/

namespace Sys2Proof.Machine

/-! ### Products -/

/-- A signed product narrowed to n bits, as a number (41_arithmetic.md R146, R151). -/
theorem toNat_signedProduct {w : Nat} (hw : 0 < w) (n : Nat) (a b : BitVec w) :
    (BitVec.ofInt n (a.toInt * b.toInt)).toNat = ((signedOf w a.toNat * signedOf w b.toNat) % 2 ^ n).toNat := by
  rw [BitVec.toNat_ofInt, toInt_eq_signedOf hw, toInt_eq_signedOf hw]
  norm_cast

/-- The unsigned product of two words fits in 32 bits (41_arithmetic.md R152). -/
theorem toNat_wordProduct (a b : Word) : (BitVec.ofNat 32 (a.toNat * b.toNat)).toNat = a.toNat * b.toNat := by
  have hlt : a.toNat * b.toNat < 2 ^ 16 * 2 ^ 16 := Nat.mul_lt_mul'' a.isLt b.isLt
  rw [BitVec.toNat_ofNat, Nat.mod_eq_of_lt (by omega)]

/-! ### Completed multiplies -/

section
variable {s : State} (h : ¬ s.interruptsMultiply) (d : Reg)
include h

theorem multiplyByte_effect (b : Byte) (len : Nat) : ResultEffect 8 s d (s.low 8 d * b.toNat % 2 ^ 8) len
    (.next (s.multiply (s.resultByte d (s.regByte d * b) (BitVec.ofNat 21 len)))) := by
  rw [State.multiply_completes h]
  exact resultByte_effect s d _ _ len (by rw [BitVec.toNat_mul, toNat_regByte])

theorem multiplyWord_effect (b : Word) (len : Nat) : ResultEffect 16 s d (s.low 16 d * b.toNat % 2 ^ 16) len
    (.next (s.multiply (s.resultWord d (s.reg d * b) (BitVec.ofNat 21 len)))) := by
  rw [State.multiply_completes h]
  exact resultWord_effect s d _ _ len (by rw [BitVec.toNat_mul, low_16])

/-- MULSB writes the signed product of the low bytes as a word (41_arithmetic.md R146). -/
theorem mulsb_effect (r : Reg) :
    ResultEffect 16 s d ((signedOf 8 (s.low 8 r) * signedOf 8 (s.low 8 d)) % 2 ^ 16).toNat 2
      (exec (.mulsb r d) s) := by
  have hproduct := toNat_signedProduct (by decide) 16 (s.regByte r) (s.regByte d)
  rw [toNat_regByte, toNat_regByte] at hproduct
  change ResultEffect 16 s d _ 2 (.next (s.multiply _))
  rw [State.multiply_completes h]
  exact resultWord_effect s d _ _ 2 hproduct

variable {d}

/-- MULSW writes the signed product of the words to the pair (41_arithmetic.md R151). -/
theorem mulsw_effect (r : Reg) (hd : d ≠ 15) :
    PairEffect s d ((signedOf 16 (s.low 16 r) * signedOf 16 (s.low 16 d)) % 2 ^ 32).toNat 2
      (exec (.mulsw r d) s) := by
  have hproduct := toNat_signedProduct (by decide) 32 (s.reg r) (s.reg d)
  rw [← low_16, ← low_16] at hproduct
  change PairEffect s d _ 2 (withPair d (s.multiply _))
  rw [State.multiply_completes h]
  exact resultPair_effect s d hd _ _ 2 hproduct

/-- MULUW writes the unsigned product of the words to the pair (41_arithmetic.md R152). -/
theorem muluw_effect (q : Restricted) (hd : d ≠ 15) :
    PairEffect s d (s.low 16 (restrictedReg q) * s.low 16 d) 2 (exec (.muluw q d) s) := by
  have hproduct := toNat_wordProduct (s.reg (restrictedReg q)) (s.reg d)
  change PairEffect s d _ 2 (withPair d (s.multiply _))
  rw [State.multiply_completes h, low_16, low_16]
  exact resultPair_effect s d hd _ _ 2 hproduct

end

/-- Settles O28: the three forms multiply by their operand and keep the low half. -/
theorem multiplyCompletes : Obligations.MultiplyCompletes := fun _ d h =>
  ⟨allForms_byte (multiplyByte_effect h d), allForms_word (multiplyWord_effect h d)⟩

/-- The restricted register of MULUW stands in the op1 field by its number (10_state.md R24; 30_encoding.md R100). -/
theorem wordIs_muluw {n : Nat} (q : Restricted) (d : Reg) (hn : n = 0x7E00 + 2 * (restrictedReg q).val) :
    WordIs (n + 32 * d.val) (.muluw q d) := by
  subst hn
  rw [Nat.add_right_comm]
  exact wordIs_encSpecial_regs rfl (by cases q <;> rfl) rfl

/-- Settles O29: the product of each, the refused pair of R15, and the words. -/
theorem wideMultiplyCompletes : Obligations.WideMultiplyCompletes := by
  refine ⟨fun s r d q h => ⟨mulsb_effect h d r, mulsw_effect h r, muluw_effect h q, fun hd => ⟨if_pos hd, if_pos hd⟩⟩,
    fun r d => ⟨wordIs_encSpecial_regs rfl rfl rfl, wordIs_encSpecial_regs rfl rfl rfl⟩, fun d => ?_⟩
  exact ⟨wordIs_muluw .r0 d rfl, wordIs_muluw .r1 d rfl, wordIs_muluw .r8 d rfl, wordIs_muluw .r9 d rfl⟩

end Sys2Proof.Machine
end

section
/-! SUPPORT. The entry of an exception as the relation of the statements (60_exceptions.md R262 to R265, R273, R281,
R285): the frame, the status, the handler and the debug unit, each from the lemmas about its steps. -/

namespace Sys2Proof.Machine

/-! ### The frame and the status -/

/-- The low twelve bits of the saved PSR: TRC saves P as 0 (60_exceptions.md R259, R273). -/
theorem toNat_psrToSave_low (x : Exception) (psr : Word) :
    (psrToSave x psr).toNat % 4096 =
      psr.toNat % 4096 - (if x = .trc ∧ psr.getLsbD psrP = true then 1024 else 0) := by
  by_cases hx : x = .trc
  · subst hx
    have hclear : (psrToSave .trc psr).toNat = psr.toNat - (if psr.getLsbD psrP then 1024 else 0) :=
      toNat_withBit_false psr (by decide)
    have hbit : (psr.getLsbD psrP).toNat = psr.toNat / 1024 % 2 := toNat_getLsbD psr psrP
    rw [hclear]
    cases hp : psr.getLsbD psrP
    · simp
    · rw [hp, Bool.toNat_true] at hbit
      simp only [if_true, and_self]
      omega
  · have hkeep : psrToSave x psr = psr := by
      cases x with
      | trc => exact absurd rfl hx
      | nmi | svc | dvz | flg | bpt | und | dbg | ise | int => rfl
    rw [hkeep, if_neg fun h => hx h.1, Nat.sub_zero]

theorem framePushed_takeException (s : State) (x : Exception) (spc : Addr) :
    FramePushed s x spc (s.takeException x spc) := by
  have hstores := storesWithin_takeException s x spc
  refine ⟨s.takeException_isp x spc, hstores.memory, hstores.record.notRam, fun hwf hram => ?_⟩
  obtain ⟨hlow, hhigh⟩ := wordAt_pushFrame (s := s.setPsr (psrToSave x s.psr)) hwf hram spc
  rw [State.wordAt_of_mem (s.takeException_mem x spc), State.wordAt_of_mem (s.takeException_mem x spc)]
  refine ⟨hlow, hhigh.trans ?_⟩
  rw [State.setPsr_psr, toNat_psrToSave_low]
  rfl

theorem statusAfterEntry_takeException (s : State) (x : Exception) (spc : Addr) :
    StatusAfterEntry s x (s.takeException x spc) := by
  have hclear : ∀ k ∈ clearedAfter x, (s.takeException x spc).flag k = false := fun k hk => by
    rw [State.flag, State.takeException_psr, getLsbD_psrAfterSave, decide_eq_false (not_not_intro hk), Bool.and_false]
  exact ⟨hclear, (keepsBut_takeException s x spc).flags, fun r _ => s.takeException_reg x spc r, by simp, by simp,
    by simp, by simp, by simp, by simp, by simp, by simp⟩

/-! ### The state the handler is read from -/

/-- Step 5 of an entry, between the writes of its frame and its reads (60_exceptions.md R262, R283). -/
theorem settled_saveContext (s : State) (x : Exception) (spc : Addr) :
    ((s.setPsr (psrToSave x s.psr)).pushFrame spc).debugUnit.Settled x s.pins.tag (s.saveContext x spc).debugUnit := by
  have hsettle := settled_settleDebug (((s.setPsr (psrToSave x s.psr)).pushFrame spc).setPsr
    (psrAfterSave x ((s.setPsr (psrToSave x s.psr)).pushFrame spc).psr)) x
  rwa [State.setPsr_pins, State.pushFrame_pins] at hsettle

/-- `SameDispatch s u`: u has what the dispatch of s rests on, the bits of DCR that select the emulator's among it
(60_exceptions.md R264, R285). -/
structure SameDispatch (s u : State) : Prop where
  dcr : ∀ k, k ≠ dcrDen → k ≠ dcrEfb → u.dcr.getLsbD k = s.dcr.getLsbD k
  intbase : u.intbase = s.intbase
  cfg : u.cfg = s.cfg
  pins : u.pins = s.pins

namespace SameDispatch

variable {s u : State} (h : SameDispatch s u) (x : Exception)
include h

theorem alternate_iff : alternate u x ↔ alternate s x := by
  rw [alternate, alternate, h.dcr 13 (by decide) (by decide), h.dcr 12 (by decide) (by decide),
    h.dcr 11 (by decide) (by decide), h.dcr 10 (by decide) (by decide)]

theorem cfgEd : u.cfgEd = s.cfgEd := by rw [State.cfgEd, State.cfgEd, h.cfg]

theorem dispatchAt_eq : dispatchAt u x = dispatchAt s x := by
  simp only [dispatchAt, h.alternate_iff x, h.cfgEd, h.intbase, h.pins]

theorem dispatchBytes_eq : dispatchBytes u x = dispatchBytes s x := by
  simp only [dispatchBytes, h.alternate_iff x, h.cfgEd, h.dispatchAt_eq x]

theorem acknowledgeBytes_eq : acknowledgeBytes u x = acknowledgeBytes s x := by
  cases x <;> simp only [acknowledgeBytes, h.dcr 12 (by decide) (by decide), h.dcr 11 (by decide) (by decide),
    h.dcr 10 (by decide) (by decide)]

end SameDispatch

/-- The frame and step 5 leave the dispatch as it was (60_exceptions.md R262). -/
theorem sameDispatch_saveContext (s : State) (x : Exception) (spc : Addr) : SameDispatch s (s.saveContext x spc) where
  dcr := by
    have hframe := (debugOfAccess_pushFrame (s.setPsr (psrToSave x s.psr)) spc).advances
    exact (hframe.trans (settled_saveContext s x spc).advances).dcrKept
  intbase := s.saveContext_intbase x spc
  cfg := s.saveContext_cfg x spc
  pins := s.saveContext_pins x spc

/-- So does the acknowledge read (60_exceptions.md R263). -/
theorem sameDispatch_acknowledge (s : State) (x : Exception) : SameDispatch s (s.acknowledge x) where
  dcr := (debugOfAccess_acknowledge s x).advances.dcrKept
  intbase := s.acknowledge_intbase x
  cfg := s.acknowledge_cfg x
  pins := s.acknowledge_pins x

theorem SameDispatch.trans {s u v : State} (h1 : SameDispatch s u) (h2 : SameDispatch u v) : SameDispatch s v :=
  ⟨fun k hd he => (h2.dcr k hd he).trans (h1.dcr k hd he), h2.intbase.trans h1.intbase, h2.cfg.trans h1.cfg,
    h2.pins.trans h1.pins⟩

/-! ### The handler -/

/-- A 16-bit dispatch entry where memory stands (60_exceptions.md R264). -/
theorem State.toNat_readHandler_narrow {u : State} {x : Exception} (hw : u.wideEntry x = false)
    (hlo : u.storedWord (u.entryAddress x)) :
    (evenAddr (u.readHandler x).1).toNat = u.wordAt (u.entryAddress x) * 2 := by
  rcases u.readHandler_cases x with ⟨_, e⟩ | ⟨hwide, _⟩
  · rw [e, evenAddr_eq_self (handlerOf_bit0 _ _), toNat_handlerOf, State.readWord_stored hlo]
    simp
  · rw [hw] at hwide
    cases hwide

/-- A 32-bit dispatch entry where memory stands (60_exceptions.md R264). -/
theorem State.toNat_readHandler_wide {u : State} {x : Exception} (hw : u.wideEntry x = true)
    (hlo : u.storedWord (u.entryAddress x)) (hhi : u.storedWord (u.entryAddress x + 2#21)) :
    (evenAddr (u.readHandler x).1).toNat =
      u.wordAt (u.entryAddress x + 2#21) % 16 * 2 ^ 17 + u.wordAt (u.entryAddress x) * 2 := by
  rcases u.readHandler_cases x with ⟨hnarrow, _⟩ | ⟨_, e⟩
  · rw [hw] at hnarrow
    cases hnarrow
  · have hhi' : (u.readWord (u.entryAddress x)).2.storedWord (u.entryAddress x + 2#21) :=
      (storedWord_of_platform (by simp) _).2 hhi
    rw [e, evenAddr_eq_self (handlerOf_bit0 _ _), toNat_handlerOf, State.readWord_stored hlo,
      State.readWord_stored hhi', State.wordAt_of_mem (u.readWord_mem _)]

/-- The PC after an entry is what the dispatch entry gives; its reads leave memory as the frame left it. -/
theorem dispatchedTo_takeException {s : State} {x : Exception} (spc : Addr) {a : Nat}
    (ha : ((s.saveContext x spc).acknowledge x).entryAddress x = BitVec.ofNat 21 a) :
    DispatchedTo (s.takeException x spc) a (((s.saveContext x spc).acknowledge x).wideEntry x) := by
  have hmem : (s.takeException x spc).mem = ((s.saveContext x spc).acknowledge x).mem := by
    simp [State.takeException]
  have hstored := fun b => storedWord_of_platform (s := (s.saveContext x spc).acknowledge x)
    (t := s.takeException x spc) (by simp) b
  simp only [DispatchedTo, hstored, State.wordAt_of_mem hmem, State.takeException_pc, ← ha]
  cases hw : ((s.saveContext x spc).acknowledge x).wideEntry x
  · exact State.toNat_readHandler_narrow hw
  · exact State.toNat_readHandler_wide hw

theorem handlerEntered_takeException (s : State) (x : Exception) (spc : Addr) :
    HandlerEntered s x (s.takeException x spc) := by
  have hsame := (sameDispatch_saveContext s x spc).trans (sameDispatch_acknowledge _ x)
  have hto := fun a => dispatchedTo_takeException (s := s) (x := x) spc (a := a)
  have huses := usesAlternate_iff ((s.saveContext x spc).acknowledge x) x
  generalize (s.saveContext x spc).acknowledge x = u at hsame hto huses
  rw [hsame.alternate_iff x] at huses
  simp only [HandlerEntered, ← vectorOf_eq, ← hsame.pins, ← hsame.intbase, ← hsame.cfgEd]
  refine ⟨fun halt => ?_, fun halt hed => ?_, fun halt hed => ?_⟩
  · have huse := huses.2 halt
    have hwide : u.wideEntry x = true := by rw [State.wideEntry, huse, Bool.true_or]
    exact hwide ▸ hto _ (State.entryAddress_alternate huse)
  · have huse := Bool.eq_false_of_not_eq_true (mt huses.1 halt)
    have hwide : u.wideEntry x = true := by rw [State.wideEntry, hed, Bool.or_true]
    exact hwide ▸ hto _ (State.entryAddress_wide huse hed)
  · have huse := Bool.eq_false_of_not_eq_true (mt huses.1 halt)
    have hwide : u.wideEntry x = false := by rw [State.wideEntry, huse, hed, Bool.or_false]
    exact hwide ▸ hto _ (State.entryAddress_narrow huse hed)

/-! ### The debug unit and the whole entry -/

/-- The acknowledge read and the reads of the dispatch entry, on the debug unit (60_exceptions.md R281). -/
theorem debugOfAccess_entryReads (s : State) (x : Exception) :
    DebugOfAccess s ((s.acknowledge x).readHandler x).2 (reads (acknowledgeBytes s x ++ dispatchBytes s x)) := by
  rw [reads_append, ← (sameDispatch_acknowledge s x).dispatchBytes_eq x]
  exact (debugOfAccess_acknowledge s x).trans (debugOfAccess_readHandler _ x)

theorem debugAfterEntry_takeException (s : State) (x : Exception) (spc : Addr) :
    DebugAfterEntry s x (s.takeException x spc) := by
  have hsame := sameDispatch_saveContext s x spc
  have hreads := debugOfAccess_entryReads (s.saveContext x spc) x
  rw [DebugOfAccess, hsame.acknowledgeBytes_eq, hsame.dispatchBytes_eq, State.saveContext_car] at hreads
  exact ⟨_, _, debugOfAccess_pushFrame (s.setPsr (psrToSave x s.psr)) spc, settled_saveContext s x spc, hreads⟩

/-- Taking an exception is the entry of the statements (60_exceptions.md R262). -/
theorem entered_takeException (s : State) (x : Exception) (spc : Addr) : Entered s x spc (s.takeException x spc) :=
  ⟨framePushed_takeException s x spc, statusAfterEntry_takeException s x spc, handlerEntered_takeException s x spc,
    debugAfterEntry_takeException s x spc⟩

end Sys2Proof.Machine
end

section
/-! SUPPORT. A multiply that an accepted interrupt suspends (41_arithmetic.md R149; 60_exceptions.md R266). -/

namespace Sys2Proof.Machine

/-- An accepted interrupt suspends a multiply, whatever it would complete as. -/
theorem State.multiply_of_accepted {s : State} {x : Exception} (h : s.acceptedInterrupt s.pins.duringMul = some x)
    (t : State) : s.multiply t = s.suspendMultiply x := by
  rw [State.multiply, h]

/-- Every multiply goes on but those that name the pair of R15. -/
theorem exec_multiply_next {i : Instr} (s : State) (hm : isMultiply i = true) (hw : ∀ r, i ≠ .mulsw r 15)
    (hu : ∀ q, i ≠ .muluw q 15) : ∃ t, exec i s = .next (s.multiply t) := by
  unfold isMultiply at hm
  split at hm
  case h_8 src dest => exact ⟨_, if_neg fun hd : dest = Reg.sp => hw src (hd ▸ rfl)⟩
  case h_9 src dest => exact ⟨_, if_neg fun hd : dest = Reg.sp => hu src (hd ▸ rfl)⟩
  case h_1 | h_2 | h_3 | h_4 | h_5 | h_6 | h_7 => exact ⟨_, rfl⟩
  case h_10 => cases hm

/-- An accepted interrupt is NMI, INT or ISE, whose entries clear I, P and T (60_exceptions.md R265, R268). -/
theorem clearedAfter_accepted {s : State} {q : Requests} {x : Exception} (h : s.acceptedInterrupt q = some x) :
    clearedAfter x = [psrI, psrP, psrT] := by
  unfold State.acceptedInterrupt at h
  split_ifs at h <;> cases h <;> rfl

/-- Settles O30: the multiply is suspended, and its suspension is an entry from the state with P and DBG-pending
cleared. -/
theorem multiplySuspended : Obligations.MultiplySuspended := by
  intro i s x hm hw hu hx
  have hexec : exec i s = .next (s.suspendMultiply x) := by
    obtain ⟨t, ht⟩ := exec_multiply_next s hm hw hu
    rw [ht, State.multiply_of_accepted hx]
  obtain ⟨hclear, _⟩ := statusAfterEntry_takeException ((s.setFlag psrP false).setDbgPending false) x s.pc
  rw [clearedAfter_accepted hx] at hclear
  exact ⟨hexec, _, hexec, entered_takeException _ x s.pc, fun r _ => s.suspendMultiply_reg x r, hclear⟩

end Sys2Proof.Machine
end

section
/-! SUPPORT. CMP and the compare-and-branch instructions (42_compare_logic_shift.md R160 to R165): the operand forms
run one comparison, and a branch is decided by one comparison of a restricted register with 0 or 1. -/

namespace Sys2Proof.Machine

/-! ### CMP -/

theorem compareByte_effect (s : State) (d : Reg) (b : Byte) (len : Nat) :
    CompareEffect 8 s d b.toNat len (.next (s.compare b (s.regByte d) (BitVec.ofNat 21 len))) :=
  compare_effect (by decide) s d _ _ _ len rfl (toNat_regByte s d)

theorem compareWord_effect (s : State) (d : Reg) (b : Word) (len : Nat) :
    CompareEffect 16 s d b.toNat len (.next (s.compare b (s.reg d) (BitVec.ofNat 21 len))) :=
  compare_effect (by decide) s d _ _ _ len rfl (low_16 s d).symm

/-- Settles O31: each form compares its operand with the register in the dest field. -/
theorem compareCompletes : Obligations.CompareCompletes := fun s d =>
  ⟨allForms_byte (compareByte_effect s d), allForms_word (compareWord_effect s d)⟩

/-! ### The condition of a compare-and-branch -/

/-- The test of a byte operand, as a number (42_compare_logic_shift.md R162, R164). -/
theorem regByte_beq_iff (s : State) (r : Reg) (v : Byte) : (s.regByte r == v) = true ↔ s.low 8 r = v.toNat := by
  rw [beq_iff_eq, ← BitVec.toNat_inj, toNat_regByte]

/-- The test of a word operand, as a number (42_compare_logic_shift.md R162, R164). -/
theorem reg_beq_iff (s : State) (r : Reg) (v : Word) : (s.reg r == v) = true ↔ s.low 16 r = v.toNat := by
  rw [beq_iff_eq, ← BitVec.toNat_inj, low_16]

/-- The BNE instructions test the negation (42_compare_logic_shift.md R163, R165). -/
theorem bne_iff_of_beq_iff {w : Nat} {x v : BitVec w} {p : Prop} (h : (x == v) = true ↔ p) :
    (x != v) = true ↔ ¬ p := by
  rw [bne_iff_ne, ← h, beq_iff_eq]

/-- The target is pc + disp5, unsigned (42_compare_logic_shift.md R161). -/
theorem compareBranch_effect (s : State) {k : Bool} {p : Prop} (hk : k = true ↔ p) (disp : BitVec 5) :
    BranchEffect s p ((s.pc.toNat + disp.toNat) % 2 ^ 21) 2 (.next (s.branch k (s.target5 disp) 2)) :=
  branch_effect s k p hk _ _ 2 (by rw [toNat_target5])

/-! ### The words of a compare-and-branch -/

/-- The restricted register of a field has the number its two bits give (10_state.md R24). -/
theorem restrictedReg_restrictedOf (b3 b0 : Bool) :
    (restrictedReg (restrictedOf b3 b0)).val = 8 * b3.toNat + b0.toNat := by
  cases b3 <;> cases b0 <;> rfl

theorem toNat_encExt (ext : BitVec 2) (b3 b0 : Bool) :
    (encExt ext b3 b0).toNat = 8 * b3.toNat + 2 * ext.toNat + b0.toNat := by
  simp only [encExt, toNat_append_eq_mul_add, BitVec.toNat_ofBool]
  ring

/-- The compare-and-branch format (30_encoding.md R98): bit 0 of an even displacement has no place in the word. -/
theorem wordIs_encCmpBranch {ins : Instr} {i b3 b0 : Bool} {ext : BitVec 2} {disp : BitVec 5} {base : Nat}
    (hdisp : disp.getLsbD 0 = false) (hwf : ins.wf = evenDisp disp)
    (hw : encode ins = encCmpBranch i ext (restrictedOf b3 b0) disp)
    (hbase : 0x1401 + i.toNat * 2 ^ 13 + ext.toNat * 2 ^ 6 = base) :
    WordIs (base + (256 * b3.toNat + 32 * b0.toNat + disp.toNat)) ins := by
  have heven : evenDisp disp = true := by rw [evenDisp, hdisp]; rfl
  refine wordIs_of_encode (hwf.trans heven) hw ?_
  have hcut : (disp.extractLsb' 1 4).toNat * 2 = disp.toNat := by
    have hlt := disp.isLt
    have hbit := toNat_getLsbD disp 0
    rw [hdisp, Bool.toNat_false] at hbit
    rw [toNat_extractLsb']
    omega
  rw [toNat_wordOf, ← hbase, ← hcut, restrictedB3_of, restrictedB0_of]
  simp only [toNat_encExt, Bool.toNat_true, Bool.toNat_false, BitVec.toNat_ofNat]
  ring

/-- Settles O32: four tests and their negations decide the branches, and each format has its word. -/
theorem compareAndBranchCompletes : Obligations.CompareAndBranchCompletes := by
  refine ⟨fun s q disp => ?_, fun b3 b0 disp hdisp => ⟨restrictedReg_restrictedOf b3 b0, ?_⟩⟩
  · have byte0 := regByte_beq_iff s (restrictedReg q) 0
    have byte1 := regByte_beq_iff s (restrictedReg q) 1
    have word0 := reg_beq_iff s (restrictedReg q) 0
    have word1 := reg_beq_iff s (restrictedReg q) 1
    exact ⟨compareBranch_effect s byte0 disp, compareBranch_effect s word0 disp,
      compareBranch_effect s (bne_iff_of_beq_iff byte0) disp, compareBranch_effect s (bne_iff_of_beq_iff word0) disp,
      compareBranch_effect s byte1 disp, compareBranch_effect s word1 disp,
      compareBranch_effect s (bne_iff_of_beq_iff byte1) disp, compareBranch_effect s (bne_iff_of_beq_iff word1) disp⟩
  · exact ⟨wordIs_encCmpBranch hdisp rfl rfl rfl, wordIs_encCmpBranch hdisp rfl rfl rfl,
      wordIs_encCmpBranch hdisp rfl rfl rfl, wordIs_encCmpBranch hdisp rfl rfl rfl,
      wordIs_encCmpBranch hdisp rfl rfl rfl, wordIs_encCmpBranch hdisp rfl rfl rfl,
      wordIs_encCmpBranch hdisp rfl rfl rfl, wordIs_encCmpBranch hdisp rfl rfl rfl⟩

end Sys2Proof.Machine
end

section
/-! SUPPORT. AND, OR and XOR (42_compare_logic_shift.md R166 to R168), and Scond (R169): the result of each as the
number its rule names. -/

namespace Sys2Proof.Machine

/-! ### AND, OR and XOR -/

/-- A bitwise operation on a byte has its effect where it is the same operation on numbers. -/
theorem bitwiseByte_effect {op : Byte → Byte → Byte} {opNat : Nat → Nat → Nat}
    (hop : ∀ x y, (op x y).toNat = opNat x.toNat y.toNat) (s : State) (d : Reg) (b : Byte) (len : Nat) :
    ResultEffect 8 s d (opNat (s.low 8 d) b.toNat) len
      (.next (s.resultByte d (op (s.regByte d) b) (BitVec.ofNat 21 len))) :=
  resultByte_effect s d _ _ len (by rw [hop, toNat_regByte])

/-- A bitwise operation on a word has its effect where it is the same operation on numbers. -/
theorem bitwiseWord_effect {op : Word → Word → Word} {opNat : Nat → Nat → Nat}
    (hop : ∀ x y, (op x y).toNat = opNat x.toNat y.toNat) (s : State) (d : Reg) (b : Word) (len : Nat) :
    ResultEffect 16 s d (opNat (s.low 16 d) b.toNat) len
      (.next (s.resultWord d (op (s.reg d) b) (BitVec.ofNat 21 len))) :=
  resultWord_effect s d _ _ len (by rw [hop, low_16])

/-- Settles O33: each form combines its operand with the destination. -/
theorem logicCompletes : Obligations.LogicCompletes := fun s d =>
  ⟨allForms_byte (bitwiseByte_effect BitVec.toNat_and s d), allForms_word (bitwiseWord_effect BitVec.toNat_and s d),
    allForms_byte (bitwiseByte_effect BitVec.toNat_or s d), allForms_word (bitwiseWord_effect BitVec.toNat_or s d),
    allForms_byte (bitwiseByte_effect BitVec.toNat_xor s d), allForms_word (bitwiseWord_effect BitVec.toNat_xor s d)⟩

/-! ### Scond -/

/-- The destination takes 1 where the condition holds and 0 where it does not (42_compare_logic_shift.md R169). -/
theorem scond_effect (s : State) (d : Reg) (c : Cond) :
    ResultEffect 16 s d (s.holds c).toNat 2 (.next (s.resultWord d (if s.holds c then 1 else 0) 2)) :=
  resultWord_effect s d _ _ 2 (by cases s.holds c <;> rfl)

/-- The truth of a condition as a number (30_encoding.md R109). -/
theorem toNat_holds (s : State) (c : Cond) :
    (CondTrue s c → (s.holds c).toNat = 1) ∧ (¬ CondTrue s c → (s.holds c).toNat = 0) := by
  rw [← holds_iff]
  cases s.holds c
  · exact ⟨fun h => absurd h Bool.false_ne_true, fun _ => rfl⟩
  · exact ⟨fun _ => rfl, fun h => absurd rfl h⟩

/-- The special format with a code and a register field (30_encoding.md R100). -/
theorem wordIs_encSpecial_code {ins : Instr} {op4 code : BitVec 4} {r : Reg} {base : Nat} (h : ins.WellFormed)
    (hw : encode ins = encSpecial op4 code (regBits r))
    (hbase : 0x6000 + op4.toNat * 2 ^ 9 + code.toNat * 2 ^ 5 = base) : WordIs (base + 2 * r.val) ins := by
  refine wordIs_of_encode h hw ?_
  rw [toNat_wordOf]
  simp only [toNat_regBits, Bool.toNat_true, Bool.toNat_false]
  omega

/-- Settles O34: the value is the truth of the condition, and the code of the condition stands in the word. -/
theorem scondCompletes : Obligations.ScondCompletes := by
  intro s d
  have heffect := scond_effect s d
  refine ⟨fun c => (s.holds c).toNat, toNat_holds s, heffect .eq, ?_, heffect .ne, ?_, heffect .cs, ?_,
    heffect .cc, ?_, heffect .hi, ?_, heffect .ls, ?_, heffect .gt, ?_, heffect .le, ?_, heffect .fs, ?_,
    heffect .fc, ?_, heffect .lo, ?_, heffect .hs, ?_, heffect .lt, ?_, heffect .ge, ?_⟩
  all_goals exact wordIs_encSpecial_code rfl rfl rfl

end Sys2Proof.Machine
end

section
/-! SUPPORT. ASHU and LSH (42_compare_logic_shift.md R170 to R172): what a shift of w bits gives as a number, left
open where the count is out of range, and that an instruction writes it, or a free value there. -/

namespace Sys2Proof.Machine

/-! ### Shifted values -/

/-- The w-bit number v is x shifted by the signed count n, where n is in range; the bits that enter on the right shift
are those of the sign of x (arith) or 0 (42_compare_logic_shift.md R171, R172). -/
structure Shifted (w : Nat) (arith : Bool) (x : Nat) (n : Int) (v : Nat) : Prop where
  left : 0 ≤ n → n.natAbs < w → v = x * 2 ^ n.natAbs % 2 ^ w
  right : n < 0 → n.natAbs < w → v = ((if arith then signedOf w x else (x : Int)) / 2 ^ n.natAbs % 2 ^ w).toNat

section
variable {w : Nat} (x : BitVec w) (n : Int) (free : BitVec w)

/-- ASHUi; a free value only where the count is out of range (42_compare_logic_shift.md R171). -/
theorem shifted_ashift (hw : 0 < w) : Shifted w true x.toNat n ((ashift x n).getD free).toNat := by
  unfold ashift
  split_ifs with hout hleft
  · exact ⟨fun _ h => absurd hout h.not_ge, fun _ h => absurd hout h.not_ge⟩
  · exact ⟨fun _ _ => toNat_shiftedLeft x _, fun h => absurd hleft h.not_ge⟩
  · exact ⟨fun h => absurd h hleft, fun _ _ => toNat_shiftedRightSigned hw x _⟩

/-- LSHi; a free value only where the count is out of range (42_compare_logic_shift.md R172). -/
theorem shifted_lshift : Shifted w false x.toNat n ((lshift x n).getD free).toNat := by
  unfold lshift
  split_ifs with hout hleft
  · exact ⟨fun _ h => absurd hout h.not_ge, fun _ h => absurd hout h.not_ge⟩
  · exact ⟨fun _ _ => toNat_shiftedLeft x _, fun h => absurd hleft h.not_ge⟩
  · exact ⟨fun h => absurd h hleft, fun _ _ => toNat_shiftedRight x _⟩

end

/-! ### The operations that write them -/

/-- Drawing a free value first leaves the effect as it is (notes/assumptions/3.md). -/
theorem resultEffect_of_setFresh {w : Nat} {s : State} {d : Reg} {v len n : Nat} {o : Result}
    (h : ResultEffect w (s.setFresh n) d v len o) : ResultEffect w s d v len o := by
  obtain ⟨t, ho, hlow, hregs, hpsr, hpc, ⟨hspecials, hdebug, hop, hmem, hstale⟩⟩ := h
  obtain ⟨hisp, hintbase, hcfg, hcar, hplatform, hpins, hahead⟩ := hspecials
  obtain ⟨hdcr, hdsr, hpending⟩ := hdebug
  exact ⟨t, ho, hlow, hregs, hpsr, hpc, ⟨hisp, hintbase, hcfg, hcar, hplatform, hpins, hahead⟩,
    ⟨hdcr, hdsr, hpending⟩, hop, hmem, hstale⟩

/-- A byte shift writes its value, or a free one where the count gives none (93_implementation_defined.md U5). -/
theorem shiftByte_result (s : State) (d : Reg) (v : Option Byte) (len : Nat) :
    ResultEffect 8 s d (v.getD s.drawByte.1).toNat len (.next (s.shiftByte d v (BitVec.ofNat 21 len))) := by
  cases v with
  | some v => exact resultByte_effect s d v _ len rfl
  | none => exact resultEffect_of_setFresh (resultByte_effect s.drawByte.2 d s.drawByte.1 _ len rfl)

/-- A word shift writes its value, or a free one where the count gives none (93_implementation_defined.md U5). -/
theorem shiftWord_result (s : State) (d : Reg) (v : Option Word) (len : Nat) :
    ResultEffect 16 s d (v.getD s.drawWord.1).toNat len (.next (s.shiftWord d v (BitVec.ofNat 21 len))) := by
  cases v with
  | some v => exact resultWord_effect s d v _ len rfl
  | none => exact resultEffect_of_setFresh (resultWord_effect s.drawWord.2 d s.drawWord.1 _ len rfl)

/-- A write of w bits leaves the bits above (10_state.md R22). -/
theorem WritesLow.high {s t : State} {w : Nat} {d : Reg} {v : Nat} (h : WritesLow s t w d v) (hv : v < 2 ^ w) :
    (t.reg d).toNat / 2 ^ w = (s.reg d).toNat / 2 ^ w := by
  rw [h, Nat.mul_comm, Nat.mul_add_div (Nat.two_pow_pos w), Nat.div_eq_of_lt hv, Nat.add_zero]

/-- Writing a shifted value is the effect of a shift (42_compare_logic_shift.md R170 to R172). -/
theorem shiftEffect_of_result {w : Nat} {arith : Bool} {s : State} {d : Reg} {b len : Nat} {v : BitVec w} {o : Result}
    (h : ResultEffect w s d v.toNat len o) (hv : Shifted w arith (s.low w d) (signedOf 8 (b % 256)) v.toNat) :
    ShiftEffect w arith s d b len o := by
  obtain ⟨t, ho, hlow, hregs, hpsr, hpc, honly⟩ := h
  exact ⟨t, ho, fun hsign hlt => hv.left hsign hlt ▸ hlow, fun hsign hlt => hv.right hsign hlt ▸ hlow,
    hlow.high v.isLt, hregs, hpsr, hpc, honly⟩

/-! ### The instructions -/

/-- The count of a byte operand, signed (42_compare_logic_shift.md R170). -/
theorem toInt_byteCount (b : Byte) : b.toInt = signedOf 8 (b.toNat % 256) := by
  rw [toInt_eq_signedOf (by decide), Nat.mod_eq_of_lt b.isLt]

section
variable (s : State) (d : Reg)

theorem ashiftByte_effect (b : Byte) (len : Nat) : ShiftEffect 8 true s d b.toNat len
    (.next (s.shiftByte d (ashift (s.regByte d) b.toInt) (BitVec.ofNat 21 len))) := by
  refine shiftEffect_of_result (shiftByte_result s d _ len) ?_
  rw [← toInt_byteCount, ← toNat_regByte]
  exact shifted_ashift _ _ _ (by decide)

theorem ashiftWord_effect (b : Word) (len : Nat) : ShiftEffect 16 true s d b.toNat len
    (.next (s.shiftWord d (ashift (s.reg d) (shiftCount b)) (BitVec.ofNat 21 len))) := by
  refine shiftEffect_of_result (shiftWord_result s d _ len) ?_
  rw [← shiftCount_eq, low_16]
  exact shifted_ashift _ _ _ (by decide)

theorem lshiftByte_effect (b : Byte) (len : Nat) : ShiftEffect 8 false s d b.toNat len
    (.next (s.shiftByte d (lshift (s.regByte d) b.toInt) (BitVec.ofNat 21 len))) := by
  refine shiftEffect_of_result (shiftByte_result s d _ len) ?_
  rw [← toInt_byteCount, ← toNat_regByte]
  exact shifted_lshift _ _ _

theorem lshiftWord_effect (b : Word) (len : Nat) : ShiftEffect 16 false s d b.toNat len
    (.next (s.shiftWord d (lshift (s.reg d) (shiftCount b)) (BitVec.ofNat 21 len))) := by
  refine shiftEffect_of_result (shiftWord_result s d _ len) ?_
  rw [← shiftCount_eq, low_16]
  exact shifted_lshift _ _ _

end

/-- Settles O35: each form shifts by the count its operand names. -/
theorem shiftCompletes : Obligations.ShiftCompletes := fun s d =>
  ⟨allForms_byte (ashiftByte_effect s d), allForms_word (ashiftWord_effect s d),
    allForms_byte (lshiftByte_effect s d), allForms_word (lshiftWord_effect s d)⟩

end Sys2Proof.Machine
end

section
/-! SUPPORT. TBIT, TBITi, SBITi and CBITi (43_bits.md R180 to R186): what an instruction that reads, or reads and
stores, leaves as it was, put together from what it keeps and where it stores; the two branches on the position as
one form, its values open out of range; and the effect of each operation. -/

namespace Sys2Proof.Machine

/-! ### What an access instruction leaves as it was -/

/-- An instruction that reads the bytes of the list and stores nothing. -/
theorem readOnly_of {s t : State} {ks : List Nat} {as : List Addr} (hkeeps : KeepsBut ks s t)
    (hstores : StoresWithin [] s t) (hdebug : DebugOfAccess s t (reads as)) (hisp : t.isp = s.isp := by simp)
    (hpins : t.pins = s.pins := by simp) (hahead : t.pinsAhead = s.pinsAhead := by simp)
    (hop : t.opState = s.opState := by simp) (hstale : t.stale = s.stale := by simp) : ReadOnly s t as :=
  ⟨⟨hisp, hkeeps.intbase, hkeeps.cfg, hkeeps.car, hstores.record.platform, hpins, hahead⟩, hdebug, hop,
    hstores.memory, hstale⟩

/-- An instruction that makes the accesses of the list. -/
theorem storeOnly_of {s t : State} {ks : List Nat} {as : List Addr} {accesses : List Access}
    (hkeeps : KeepsBut ks s t) (hstores : StoresWithin as s t) (hdebug : DebugOfAccess s t accesses)
    (hisp : t.isp = s.isp := by simp) (hpins : t.pins = s.pins := by simp)
    (hahead : t.pinsAhead = s.pinsAhead := by simp) (hop : t.opState = s.opState := by simp) :
    StoreOnly s t accesses :=
  ⟨⟨hisp, hkeeps.intbase, hkeeps.cfg, hkeeps.car, hstores.record.platform, hpins, hahead⟩, hdebug, hop,
    hstores.record.notRam⟩

/-- A byte stored after operations that leave memory as it was. -/
theorem ByteStored.from_eq {s r t : State} {a : Addr} {v : Nat} (h : ByteStored r t a v)
    (hmem : r.mem = s.mem := by simp) (hplatform : r.platform = s.platform := by simp) : ByteStored s t a v := by
  obtain ⟨hram, hother⟩ := h
  rw [State.isRam_of_platform hplatform] at hram hother
  exact ⟨hram, fun hr => (hother hr).trans (State.byteAt_of_mem hmem a)⟩

/-- A word stored after operations that leave memory as it was. -/
theorem WordStored.from_eq {s r t : State} {a : Addr} {v : Nat} (h : WordStored r t a v)
    (hmem : r.mem = s.mem := by simp) (hplatform : r.platform = s.platform := by simp) : WordStored s t a v :=
  ⟨h.1.from_eq hmem hplatform, h.2.from_eq hmem hplatform⟩

/-! ### The operations as one form -/

/-- TBIT writes F; a free value only above position 15 (43_bits.md R183; 93_implementation_defined.md U6). -/
theorem State.testBit_eq (s : State) (v pos : Word) (len : Addr) :
    ∃ n f, (pos.toNat ≤ 15 → f = v.getLsbD pos.toNat) ∧
      s.testBit v pos len = ((s.setFresh n).setFlag psrF f).advance len := by
  unfold State.testBit
  split
  · exact ⟨s.fresh, _, fun _ => rfl, rfl⟩
  · next hout => exact ⟨_, _, fun hle => absurd (Nat.lt_succ_of_le hle) hout, rfl⟩

/-- TBITB reads the byte and writes F; a free value only for positions 8 to 15 (43_bits.md R180, R184;
93_implementation_defined.md U6). -/
theorem State.testByteAt_eq (s : State) (ea : Addr) (pos : BitVec 4) (len : Addr) :
    ∃ n f, (pos.toNat < 8 → f = (s.readByte ea).1.getLsbD pos.toNat) ∧
      s.testByteAt ea pos len = (((s.readByte ea).2.setFresh n).setFlag psrF f).advance len := by
  unfold State.testByteAt
  split
  · exact ⟨(s.readByte ea).2.fresh, _, fun _ => rfl, rfl⟩
  · next hout => exact ⟨_, _, fun hlt => absurd hlt hout, rfl⟩

/-- SBITB and CBITB read the byte, write F and store a byte; free values only for positions 8 to 15
(43_bits.md R180, R185, R186; 93_implementation_defined.md U6). -/
theorem State.changeByteAt_eq (s : State) (ea : Addr) (pos : BitVec 4) (b : Bool) (len : Addr) :
    ∃ n f v, (pos.toNat < 8 →
        f = (s.readByte ea).1.getLsbD pos.toNat ∧ v = withBit (s.readByte ea).1 pos.toNat b) ∧
      s.changeByteAt ea pos b len =
        ((((s.readByte ea).2.setFresh n).setFlag psrF f).writeByte ea v).advance len := by
  unfold State.changeByteAt
  split
  · exact ⟨(s.readByte ea).2.fresh, _, _, fun _ => ⟨rfl, rfl⟩, rfl⟩
  · next hout => exact ⟨_, _, _, fun hlt => absurd hlt hout, rfl⟩

/-! ### Bits of a register -/

/-- TBIT copies the bit to F where the position is in range (43_bits.md R183). -/
theorem testBit_effect (s : State) (v pos : Word) (len : Nat) :
    Completes (.next (s.testBit v pos (BitVec.ofNat 21 len))) fun t =>
      (pos.toNat ≤ 15 → t.flag psrF = v.toNat.testBit pos.toNat) ∧ FlagsBut s t [psrF] ∧ RegsBut s t [] ∧
      PcAfter s t len ∧ RegisterOnly s t := by
  obtain ⟨n, f, hf, he⟩ := s.testBit_eq v pos (BitVec.ofNat 21 len)
  rw [he]
  refine ⟨_, rfl, fun hle => ?_, flagsBut_setFlag s psrF f, fun _ _ => rfl, pcAfter_advance s rfl len,
    registerOnly_of ⟨rfl, rfl, rfl, rfl, rfl, rfl, rfl⟩ ⟨rfl, rfl, rfl⟩ rfl rfl rfl⟩
  exact (getLsbD_withBit_self s.psr f (by decide)).trans (hf hle)

/-- Settles O36: the three forms copy the bit at the position their operand names. -/
theorem tbitCompletes : Obligations.TbitCompletes := fun s d => allForms_word (testBit_effect s (s.reg d))

/-! ### Bits in memory -/

section
variable (s : State) (ea : Addr) (pos : BitVec 4) (b : Bool) (len : Nat)

/-- TBITB (43_bits.md R180, R184). -/
theorem testByteAt_effect :
    TestBitEffect 8 s ea pos.toNat len (.next (s.testByteAt ea pos (BitVec.ofNat 21 len))) := by
  have hkeeps := keepsBut_testByteAt s ea pos (BitVec.ofNat 21 len)
  have hstores := storesNothing_testByteAt s ea pos (BitVec.ofNat 21 len)
  obtain ⟨n, f, hf, he⟩ := s.testByteAt_eq ea pos (BitVec.ofNat 21 len)
  rw [he] at hkeeps hstores ⊢
  refine ⟨_, rfl, fun _ hlt hs => ?_, fun h => absurd h (by decide), hkeeps.flags, fun _ _ => by simp,
    pcAfter_advance s (by simp) len,
    readOnly_of hkeeps hstores ((debugOfAccess_readByte s ea).of_eq (by simp) (by simp) (by simp))⟩
  rw [← State.readByte_stored hs]
  exact (getLsbD_withBit_self _ f (by decide)).trans (hf hlt)

/-- TBITW (43_bits.md R180, R184). -/
theorem testWordAt_effect :
    TestBitEffect 16 s ea pos.toNat len (.next (s.testWordAt ea pos (BitVec.ofNat 21 len))) := by
  have hkeeps := keepsBut_testWordAt s ea pos (BitVec.ofNat 21 len)
  have hstores := storesNothing_testWordAt s ea pos (BitVec.ofNat 21 len)
  unfold State.testWordAt at hkeeps hstores ⊢
  refine ⟨_, rfl, fun h => absurd h (by decide), fun _ hs => ?_, hkeeps.flags, fun _ _ => by simp,
    pcAfter_advance s (by simp) len,
    readOnly_of hkeeps hstores ((debugOfAccess_readWord s ea).of_eq (by simp) (by simp) (by simp))⟩
  rw [← State.readWord_stored hs]
  exact getLsbD_withBit_self _ _ (by decide)

/-- SBITB and CBITB (43_bits.md R180, R185, R186); at positions 8 to 15 the accesses are made all the same
(notes/assumptions/20.md), and where no RAM stands no byte changes (notes/assumptions/26.md). -/
theorem changeByteAt_effect :
    ChangeByteEffect s ea pos.toNat b len (.next (s.changeByteAt ea pos b (BitVec.ofNat 21 len))) := by
  have hkeeps := keepsBut_changeByteAt s ea pos b (BitVec.ofNat 21 len)
  have hstores := storesWithin_changeByteAt s ea pos b (BitVec.ofNat 21 len)
  obtain ⟨n, f, v, hval, he⟩ := s.changeByteAt_eq ea pos b (BitVec.ofNat 21 len)
  rw [he] at hkeeps hstores ⊢
  have hwrite := (debugOfAccess_writeByte (((s.readByte ea).2.setFresh n).setFlag psrF f) ea v).from_eq
    (s := (s.readByte ea).2) ⟨by simp, by simp, by simp⟩ (by simp)
  refine ⟨_, rfl, fun hlt hs => ?_, fun hlt hwf hram => ?_, hstores.record.notRam ea, hstores.memory, hkeeps.flags,
    fun _ _ => by simp, pcAfter_advance s (by simp) len,
    storeOnly_of hkeeps hstores (((debugOfAccess_readByte s ea).trans hwrite).of_eq (by simp) (by simp) (by simp))⟩
  · rw [State.advance_flag, State.writeByte_flag, State.flag_setFlag _ _ _ (by decide), if_pos rfl, (hval hlt).1,
      State.readByte_stored hs]
    rfl
  · have hcanonical : (((s.readByte ea).2.setFresh n).setFlag psrF f).mem.wf = true := by simpa using hwf
    rw [← State.readByte_stored (.inl hram), ← toNat_withBit _ hlt, ← (hval hlt).2]
    exact (byteStored_writeByte hcanonical ea v).from_eq.1 hram

/-- SBITW and CBITW (43_bits.md R180, R185, R186). -/
theorem changeWordAt_effect :
    ChangeWordEffect s ea pos.toNat b len (.next (s.changeWordAt ea pos b (BitVec.ofNat 21 len))) := by
  have hkeeps := keepsBut_changeWordAt s ea pos b (BitVec.ofNat 21 len)
  have hstores := storesWithin_changeWordAt s ea pos b (BitVec.ofNat 21 len)
  have hstored : s.mem.wf = true → s.storedWord ea →
      WordStored s (s.changeWordAt ea pos b (BitVec.ofNat 21 len)) ea (changedBit (s.wordAt ea) pos.toNat b) := by
    intro hwf hs
    rw [← State.readWord_stored hs, ← toNat_withBit _ pos.isLt]
    exact (wordStored_writeWord (by simpa using hwf) ea _).from_eq
  unfold State.changeWordAt at hkeeps hstores hstored ⊢
  have hwrite := (debugOfAccess_writeWord ((s.readWord ea).2.setFlag psrF ((s.readWord ea).1.getLsbD pos.toNat)) ea
    (withBit (s.readWord ea).1 pos.toNat b)).from_eq (s := (s.readWord ea).2) ⟨by simp, by simp, by simp⟩ (by simp)
  refine ⟨_, rfl, fun hs => ?_, fun hwf hram => ?_, hstored, hstores.memory, hkeeps.flags,
    fun _ _ => by simp, pcAfter_advance s (by simp) len,
    storeOnly_of hkeeps hstores (((debugOfAccess_readWord s ea).trans hwrite).of_eq (by simp) (by simp) (by simp))⟩
  · rw [State.advance_flag, State.writeWord_flag, State.flag_setFlag _ _ _ (by decide), if_pos rfl,
      ← State.readWord_stored hs]
    rfl
  · exact (hstored hwf ⟨.inl hram.1, .inl hram.2⟩).wordAt hram

end

/-- Settles O37: each form tests the byte or the word at its effective address. -/
theorem memoryBitTestCompletes : Obligations.MemoryBitTestCompletes := fun s pos _ _ _ =>
  ⟨testByteAt_effect s _ pos 2, testByteAt_effect s _ pos 4, testByteAt_effect s _ pos 4,
    testWordAt_effect s _ pos 2, testWordAt_effect s _ pos 4, testWordAt_effect s _ pos 4⟩

/-- Settles O38: each form changes the byte or the word at its effective address, SBIT to 1 and CBIT to 0. -/
theorem memoryBitChangeCompletes : Obligations.MemoryBitChangeCompletes := fun s pos _ _ _ =>
  ⟨changeByteAt_effect s _ pos true 2, changeByteAt_effect s _ pos true 4, changeByteAt_effect s _ pos true 4,
    changeWordAt_effect s _ pos true 2, changeWordAt_effect s _ pos true 4, changeWordAt_effect s _ pos true 4,
    changeByteAt_effect s _ pos false 2, changeByteAt_effect s _ pos false 4, changeByteAt_effect s _ pos false 4,
    changeWordAt_effect s _ pos false 2, changeWordAt_effect s _ pos false 4, changeWordAt_effect s _ pos false 4⟩

end Sys2Proof.Machine
end

section
/-! SUPPORT. Bcond, BR, BAL, Jcond, JUMP and JAL (44_jumps_linkage.md R190 to R202): one lemma for each of the three
displacement forms and the two target registers, one for each link, and when a pair is refused. -/

namespace Sys2Proof.Machine

/-! ### Branches -/

section
variable (s : State) (c : Cond)

/-- Bcond, short displacement (44_jumps_linkage.md R190, R191). -/
theorem branchDisp9_effect (d : BitVec 9) :
    BranchEffect s (CondTrue s c) ((s.pc.toNat + d.toInt) % 2 ^ 21).toNat 2
      (.next (s.branch (s.holds c) (s.target9 d) 2)) :=
  branch_effect s _ _ (holds_iff s c) _ _ 2 (by rw [toNat_target9])

/-- Bcond, medium displacement, small model (44_jumps_linkage.md R190, R192). -/
theorem branchDisp17_effect (d : BitVec 17) :
    BranchEffect s (CondTrue s c) ((s.pc.toNat + d.toInt) % 2 ^ 17).toNat 4
      (.next (s.branch (s.holds c) (s.target17 d) 4)) :=
  branch_effect s _ _ (holds_iff s c) _ _ 4 (by rw [toNat_target17])

/-- Bcond, medium displacement, large model (44_jumps_linkage.md R190, R193). -/
theorem branchDisp21_effect (d : BitVec 21) :
    BranchEffect s (CondTrue s c) ((s.pc.toNat + d.toNat) % 2 ^ 21) 4
      (.next (s.branch (s.holds c) (s.target21 d) 4)) :=
  branch_effect s _ _ (holds_iff s c) _ _ 4 (by rw [toNat_target21])

end

/-- Settles O39: the three forms under each condition, then the three forms of BR, which jumps always. -/
theorem branchCompletes : Obligations.BranchCompletes := by
  intro s d9 d17 d21
  have b9 := fun c => branchDisp9_effect s c d9
  have b17 := fun c => branchDisp17_effect s c d17
  have b21 := fun c => branchDisp21_effect s c d21
  exact ⟨b9 .eq, b17 .eq, b21 .eq, b9 .ne, b17 .ne, b21 .ne, b9 .cs, b17 .cs, b21 .cs, b9 .cc, b17 .cc, b21 .cc,
    b9 .hi, b17 .hi, b21 .hi, b9 .ls, b17 .ls, b21 .ls, b9 .gt, b17 .gt, b21 .gt, b9 .le, b17 .le, b21 .le,
    b9 .fs, b17 .fs, b21 .fs, b9 .fc, b17 .fc, b21 .fc, b9 .lo, b17 .lo, b21 .lo, b9 .hs, b17 .hs, b21 .hs,
    b9 .lt, b17 .lt, b21 .lt, b9 .ge, b17 .ge, b21 .ge, setPc_effect s _ _ (by rw [toNat_target9]),
    setPc_effect s _ _ (by rw [toNat_target17]), setPc_effect s _ _ (by rw [toNat_target21])⟩

/-! ### Links -/

/-- The pairs of RA and SP are the excluded ones (93_implementation_defined.md U11). -/
theorem excludedPair_iff (r : Reg) : excludedPair r = true ↔ r = 14 ∨ r = 15 := by
  simp [excludedPair]

section
variable (s : State) (link : Reg) {next target : Addr} {nxt tgt : Nat} (hnext : next.toNat = nxt)
  (htarget : target.toNat = tgt)
include hnext htarget

/-- A jump that links in the small model (44_jumps_linkage.md R195, R201). -/
theorem linkOne_effect :
    JumpEffect s [link] tgt (.next ((s.linkOne link next).setPc target)) ∧
    Completes (.next ((s.linkOne link next).setPc target)) fun t => (t.reg link).toNat = nxt / 2 % 2 ^ 16 := by
  subst hnext htarget
  refine ⟨⟨_, rfl, toNat_evenAddr target, regsBut_setReg s link _, rfl,
    registerOnly_of ⟨rfl, rfl, rfl, rfl, rfl, rfl, rfl⟩ ⟨rfl, rfl, rfl⟩ rfl rfl rfl⟩, _, rfl, ?_⟩
  beta_reduce
  rw [State.setPc_reg, State.linkOne, State.reg_setReg_self, toNat_linkLow]

/-- A jump that links in the large model (44_jumps_linkage.md R196, R197, R202; 92_eei_decisions.md D9). -/
theorem linkTwo_effect :
    JumpEffect s [link, link + 1] tgt (.next ((s.linkTwo link next).setPc target)) ∧
    Completes (.next ((s.linkTwo link next).setPc target)) fun t =>
      (t.reg link).toNat = nxt / 2 % 2 ^ 16 ∧ (t.reg (link + 1)).toNat = nxt / 2 ^ 17 := by
  subst hnext htarget
  refine ⟨⟨_, rfl, toNat_evenAddr target, fun r hr => ?_, rfl,
    registerOnly_of ⟨rfl, rfl, rfl, rfl, rfl, rfl, rfl⟩ ⟨rfl, rfl, rfl⟩ rfl rfl rfl⟩, _, rfl, ?_, ?_⟩ <;>
    rw [State.setPc_reg, State.linkTwo, pairHigh]
  · rw [List.mem_cons, List.mem_singleton, not_or] at hr
    obtain ⟨hlow, hhigh⟩ := hr
    rw [State.reg_setReg_ne _ _ hhigh, State.reg_setReg_ne _ _ hlow]
  · rw [State.reg_setReg_ne _ _ (reg_ne_succ link), State.reg_setReg_self, toNat_linkLow]
  · rw [State.reg_setReg_self, toNat_linkHigh]

end

theorem exec_balLarge (s : State) (link : Reg) (d : BitVec 21) : exec (.balLarge link d) s =
    if excludedPair link then .refused .excludedRegisterPair
    else .next ((s.linkTwo link (s.pc + 4)).setPc (s.target21 d)) := rfl

/-- Settles O40: each model links the address after the BAL; only the pairs of RA and SP are refused. -/
theorem branchAndLinkCompletes : Obligations.BranchAndLinkCompletes := by
  intro s l d17 d21
  have hnext : (s.pc + 4).toNat = (s.pc.toNat + 4) % 2 ^ 21 := BitVec.toNat_add _ _
  refine ⟨linkOne_effect s l hnext (toNat_target17 s d17), fun hra hsp => ?_, fun hexcluded => ?_⟩ <;>
    rw [exec_balLarge]
  · rw [if_neg fun h => ((excludedPair_iff l).1 h).elim hra hsp]
    exact linkTwo_effect s l hnext (toNat_target21 s d21)
  · rw [if_pos ((excludedPair_iff l).2 hexcluded)]

/-! ### Jumps -/

/-- Jcond of the small model (44_jumps_linkage.md R190, R198). -/
theorem jumpOne_effect (s : State) (r : Reg) (c : Cond) :
    BranchEffect s (CondTrue s c) (2 * (s.reg r).toNat) 2
      (.next (s.branch (s.holds c) (codeSmall (s.reg r)) 2)) :=
  branch_effect s _ _ (holds_iff s c) _ _ 2 (by rw [toNat_codeSmall])

/-- Jcond and JUMP of the large model: only a taken jump through an excluded pair is refused
(44_jumps_linkage.md R199, R200; 93_implementation_defined.md U11). -/
theorem jumpPair_effect (s : State) (r : Reg) {taken : Bool} {p : Prop} (hp : taken = true ↔ p) :
    ((r ≠ 14 ∧ r ≠ 15) ∨ ¬ p →
      BranchEffect s p ((s.reg (r + 1)).toNat % 16 * 2 ^ 17 + 2 * (s.reg r).toNat) 2 (s.jumpPair taken r)) ∧
    (¬ (r ≠ 14 ∧ r ≠ 15) → p → s.jumpPair taken r = .refused .excludedRegisterPair) := by
  have hrefused : (taken && excludedPair r) = true ↔ p ∧ ¬ (r ≠ 14 ∧ r ≠ 15) := by
    rw [Bool.and_eq_true, hp, excludedPair_iff, ← not_or, not_not]
  unfold State.jumpPair
  constructor
  · intro hgo
    rw [if_neg fun h => (hrefused.1 h).elim fun htaken hpair => hgo.elim hpair (absurd htaken)]
    exact branch_effect s taken p hp _ _ 2 (by rw [toNat_codeLarge, pairHigh])
  · intro hpair htaken
    rw [if_pos (hrefused.2 ⟨htaken, hpair⟩)]

/-- Settles O41: the two models under each condition, then the two models of JUMP, which is always taken. -/
theorem jumpCompletes : Obligations.JumpCompletes := by
  intro s r
  have small := jumpOne_effect s r
  have large := fun c => jumpPair_effect s r (holds_iff s c)
  exact ⟨small .eq, large .eq, small .ne, large .ne, small .cs, large .cs, small .cc, large .cc, small .hi, large .hi,
    small .ls, large .ls, small .gt, large .gt, small .le, large .le, small .fs, large .fs, small .fc, large .fc,
    small .lo, large .lo, small .hs, large .hs, small .lt, large .lt, small .ge, large .ge,
    setPc_effect s _ _ (by rw [toNat_codeSmall]), jumpPair_effect s r (iff_of_true rfl trivial)⟩

/-! ### Jumps that link -/

/-- JAL of the large model is refused for the pairs of RA and SP and for two pairs that share one register
(93_implementation_defined.md U11). -/
theorem jalPairs_refused_iff (link target : Reg) :
    (excludedPair link || excludedPair target || overlap link target) = true ↔
      ¬ (link.val < 14 ∧ target.val < 14 ∧ link.val + 1 ≠ target.val ∧ target.val + 1 ≠ link.val) := by
  revert link target; decide

theorem exec_jalLarge (s : State) (link target : Reg) : exec (.jalLarge link target) s =
    if excludedPair link || excludedPair target || overlap link target then .refused .excludedRegisterPair
    else .next ((s.linkTwo link (s.pc + 2)).setPc (codeLarge (s.reg (pairHigh target)) (s.reg target))) := rfl

/-- Settles O42: the target is the one the registers of s hold, before the link is written. -/
theorem jumpAndLinkCompletes : Obligations.JumpAndLinkCompletes := by
  intro s l r
  have hnext : (s.pc + 2).toNat = (s.pc.toNat + 2) % 2 ^ 21 := BitVec.toNat_add _ _
  refine ⟨linkOne_effect s l hnext (toNat_codeSmall _), fun hok => ?_, fun hrefused => ?_⟩ <;> rw [exec_jalLarge]
  · rw [if_neg fun h => (jalPairs_refused_iff l r).1 h hok]
    exact linkTwo_effect s l hnext (toNat_codeLarge _ _)
  · rw [if_pos ((jalPairs_refused_iff l r).2 hrefused)]

end Sys2Proof.Machine
end

section
/-! SUPPORT. EXCP and RETX (44_jumps_linkage.md R203, R204): the trap of a vector, and the PC and the bits of PSR a
return reads from the interrupt stack. -/

namespace Sys2Proof.Machine

/-! ### The special format -/

/-- The special format with its two fields (30_encoding.md R100). -/
theorem wordIs_encSpecial {ins : Instr} {op4 op2 op1 : BitVec 4} {n : Nat} (h : ins.WellFormed)
    (hw : encode ins = encSpecial op4 op2 op1)
    (hn : 0x6000 + op4.toNat * 2 ^ 9 + op2.toNat * 2 ^ 5 + op1.toNat * 2 = n) : WordIs n ins := by
  refine wordIs_of_encode h hw ?_
  rw [toNat_wordOf, ← hn]
  simp only [Bool.toNat_true, Bool.toNat_false]
  ring

/-! ### EXCP -/

/-- The trap of a vector; every reserved one is UND (44_jumps_linkage.md R203; 30_encoding.md R110). -/
theorem excpTrap_eq (v : BitVec 4) : excpTrap v =
    if v = 5 then .svc else if v = 6 then .dvz else if v = 7 then .flg else if v = 8 then .bpt else .und := by
  revert v; decide

/-- Settles O54: EXCP takes the trap of its vector, with its own address to save; no byte changes where no RAM
stands (notes/assumptions/26.md). -/
theorem excpCompletes : Obligations.ExcpCompletes := by
  refine ⟨fun s v => ⟨_, rfl, ?_⟩, fun v => wordIs_encSpecial rfl rfl ?_⟩
  · rw [← excpTrap_eq]
    exact entered_takeException s (excpTrap v) s.pc
  · show 0x6000 + 13 * 2 ^ 9 + 15 * 2 ^ 5 + v.toNat * 2 = _
    ring

/-! ### RETX -/

/-- The PC of a return: PC[20:17] in bits 15:12 of the high word, PC[16:1] in the low one (60_exceptions.md R273). -/
theorem toNat_returnAddress (hi lo : Word) :
    (evenAddr (hi.extractLsb' 12 4 ++ lo ++ 0#1)).toNat = hi.toNat / 4096 * 2 ^ 17 + lo.toNat * 2 := by
  have hhi := hi.isLt
  rw [toNat_evenAddr, toNat_append_eq_mul_add, toNat_append_eq_mul_add, toNat_extractLsb', BitVec.toNat_ofNat]
  omega

/-- The bits of PSR a return writes are those LPR writes: 11:0 without the constant 3, 4 and 8 (10_state.md R36). -/
theorem getLsbD_psrDefined (k : Nat) : psrDefined.getLsbD k = decide (k < 12 ∧ k ∉ [3, 4, 8]) := by
  by_cases hk : k < 16
  · revert k; decide
  · rw [BitVec.getLsbD_of_ge _ _ (by omega), decide_eq_false fun h => hk (by omega)]

theorem getLsbD_highNibble (k : Nat) : (0xF000#16).getLsbD k = decide (12 ≤ k ∧ k < 16) := by
  by_cases hk : k < 16
  · revert k; decide
  · rw [BitVec.getLsbD_of_ge _ _ (by omega), decide_eq_false fun h => hk h.2]

theorem ispPlus_zero (isp : Addr) : ispPlus isp 0#16 = stackAddr isp 0 := ispPlus_eq isp 0#16

theorem ispPlus_two (isp : Addr) : ispPlus isp 2#16 = stackAddr isp 2 := ispPlus_eq isp 2#16

section
variable (s : State)

/-- The word at ISP: PC[16:1] (44_jumps_linkage.md R204). -/
def State.returnLow : Word := (s.readWord (stackAddr s.isp 0)).1

/-- The word at ISP + 2: PC[20:17] and PSR[11:0] (44_jumps_linkage.md R204). -/
def State.returnHigh : Word := ((s.readWord (stackAddr s.isp 0)).2.readWord (stackAddr s.isp 2)).1

theorem State.toNat_returnLow (h : s.storedWord (stackAddr s.isp 0)) :
    s.returnLow.toNat = s.wordAt (stackAddr s.isp 0) := State.readWord_stored h

theorem State.toNat_returnHigh (h : s.storedWord (stackAddr s.isp 2)) :
    s.returnHigh.toNat = s.wordAt (stackAddr s.isp 2) := by
  rw [State.returnHigh, State.readWord_stored ((storedWord_of_platform (by simp) _).2 h),
    State.wordAt_of_mem (State.readWord_mem s _)]

theorem State.returnFromException_pc :
    s.returnFromException.pc = evenAddr (s.returnHigh.extractLsb' 12 4 ++ s.returnLow ++ 0#1) := by
  rw [State.returnHigh, State.returnLow, ← ispPlus_zero, ← ispPlus_two]
  rfl

theorem State.returnFromException_psr :
    s.returnFromException.psr = (s.psr &&& 0xF000#16) ||| (s.returnHigh &&& psrDefined) := by
  simp [State.returnFromException, State.returnHigh, ispPlus_zero, ispPlus_two]

/-- A bit of PSR after a return: 11:0 from the high word, without 3, 4 and 8; the bits above stay. -/
theorem State.flag_returnFromException (k : Nat) : s.returnFromException.flag k =
    if k < 12 then s.returnHigh.getLsbD k && decide (k ∉ [3, 4, 8]) else s.flag k := by
  rw [State.flag, State.returnFromException_psr, BitVec.getLsbD_or, BitVec.getLsbD_and, BitVec.getLsbD_and,
    getLsbD_psrDefined, getLsbD_highNibble]
  split
  · next hlow => simp [hlow]
  · next hhigh =>
    by_cases hk : k < 16
    · simp [State.flag, hk, hhigh, Nat.le_of_not_lt hhigh]
    · simp [State.flag, BitVec.getLsbD_of_ge _ _ (Nat.le_of_not_lt hk)]

end

/-- Settles O56: the two words of the interrupt stack give the PC and the low bits of PSR, the rest is kept. -/
theorem retxCompletes : Obligations.RetxCompletes := by
  refine ⟨fun s => ⟨s.returnFromException, rfl, fun hlo hhi => ⟨?_, fun k hk => ?_⟩, fun k hk => ?_, by simp,
    fun r _ => by simp, .of_mem (by simp) [], by simp, by simp, by simp, by simp,
    debugOfAccess_returnFromException s, by simp, by simp⟩, wordIs_of_encode rfl rfl rfl⟩
  · rw [State.returnFromException_pc, toNat_returnAddress, s.toNat_returnHigh hhi, s.toNat_returnLow hlo]
  · rw [State.flag_returnFromException, if_pos hk, ← s.toNat_returnHigh hhi]
    rfl
  · rw [State.flag_returnFromException, if_neg (Nat.not_lt_of_le hk)]

end Sys2Proof.Machine
end

section
/-! SUPPORT. PUSH, POP and POPRET (44_jumps_linkage.md R205 to R209): what a run that ends below R15 stores and loads,
and what a run that reaches R15 leaves as it was (93_implementation_defined.md U12; notes/assumptions/25.md). -/

namespace Sys2Proof.Machine

/-! ### Runs -/

theorem reachesSp_iff (r : Reg) (c : BitVec 2) : reachesSp r c = true ↔ 15 ≤ r.val + c.toNat := decide_eq_true_iff

/-- A run stops at R15. -/
theorem length_regRun_eq_min : ∀ n r : Nat, (regRun r n).length = min n (16 - r)
  | 0, r => (Nat.zero_min _).symm
  | n + 1, r => by
    by_cases hr : r < 16
    · simp only [regRun, hr, ↓reduceDIte, List.length_cons, length_regRun_eq_min n (r + 1)]
      omega
    · simp only [regRun, hr, ↓reduceDIte, List.length_nil]
      omega

theorem length_runOf (r : Reg) (c : BitVec 2) : (runOf r c).length = min (c.toNat + 1) (16 - r.val) :=
  length_regRun_eq_min _ _

theorem mem_runOf (r : Reg) (c : BitVec 2) (x : Reg) : x ∈ runOf r c ↔ r.val ≤ x.val ∧ x.val < r.val + (c.toNat + 1) :=
  mem_regRun _ _ x

theorem getElem_runOf (r : Reg) (c : BitVec 2) (h : r.val + c.toNat < 15) (k : Nat) (hk : k < (runOf r c).length) :
    (runOf r c)[k] = Fin.ofNat 16 (r.val + k) := by
  have hval : (runOf r c)[k].val = r.val + k := getElem_regRun (c.toNat + 1) r.val k (by omega) hk
  rw [length_runOf] at hk
  apply Fin.ext
  rw [hval, Fin.val_ofNat]
  omega

/-! ### PUSH -/

section
variable (s : State) {c : BitVec 2} {r : Reg}

theorem State.pushRun_below (h : r.val + c.toNat < 15) : s.pushRun c r =
    (s.storeWords (s.reg 15 - runBytes c) ((runOf r c).map s.reg)).setReg 15 (s.reg 15 - runBytes c) :=
  if_neg fun h' => absurd ((reachesSp_iff r c).1 h') (Nat.not_le_of_lt h)

/-- The registers of a run stored in canonical memory, each where RAM stands (44_jumps_linkage.md R206). -/
theorem wordsStored_storeRun (hwf : s.mem.wf = true) (a : Word) (h : r.val + c.toNat < 15) :
    WordsStored s (s.storeWords a ((runOf r c).map s.reg)) a (c.toNat + 1)
      fun k => (s.reg (Fin.ofNat 16 (r.val + k))).toNat := by
  have hc := c.isLt
  have hlen : ((runOf r c).map s.reg).length = c.toNat + 1 := by rw [List.length_map, length_runOf]; omega
  intro k hk hram
  rw [wordAt_storeWords _ a hwf (by omega) k (by omega) hram, List.getElem_map, getElem_runOf r c h]

/-- The accesses of a PUSH whose run ends below R15 (60_exceptions.md R281; 92_eei_decisions.md D12). -/
theorem debugOfAccess_storeRun (a : Word) (h : r.val + c.toNat < 15) :
    DebugOfAccess s (s.storeWords a ((runOf r c).map s.reg)) (writes (stackBytes a (c.toNat + 1))) := by
  have hdebug := debugOfAccess_storeWords ((runOf r c).map s.reg) s a
  rwa [List.length_map, length_runOf, Nat.min_eq_left (by omega)] at hdebug

end

/-- The count stands in bits 6:5 of the word (30_encoding.md R111). -/
theorem toNat_encCount_push (c : BitVec 2) : (encCount false false c).toNat = c.toNat := by
  revert c; decide

/-- Settles O43: the run is stored upwards from the lowered SP; no byte changes where no RAM stands
(notes/assumptions/26.md). -/
theorem pushCompletes : Obligations.PushCompletes := by
  refine ⟨fun s c r h => ⟨(s.pushRun c r).advance 2, rfl, ?_⟩, fun c r => wordIs_encSpecial rfl rfl ?_⟩
  · have hkeeps := (keepsBut_pushRun s c r).advance 2
    have hstores := (storesWithin_pushRun s c r).advance 2
    rw [s.pushRun_below h] at hkeeps hstores ⊢
    exact ⟨fun hwf => wordsStored_storeRun s hwf _ h, hstores.memory, State.reg_setReg_self _ _ _,
      fun x hx => (regsBut_setReg _ _ _ x hx).trans (by simp), by simp, pcAfter_advance s (by simp) 2,
      storeOnly_of hkeeps hstores ((debugOfAccess_storeRun s _ h).of_eq rfl rfl rfl)⟩
  · rw [toNat_encCount_push, toNat_regBits]
    simp only [BitVec.toNat_ofNat]
    omega

/-! ### POP and POPRET -/

/-- What POP and POPRET of a run that ends below R15 do to every part of the state but the PC
(44_jumps_linkage.md R207). -/
def Popped (s : State) (c : BitVec 2) (r : Reg) (t : State) : Prop :=
  (∀ k, k < c.toNat + 1 → s.storedWord ((s.reg 15 + BitVec.ofNat 16 (2 * k)).setWidth 21) →
    (t.reg (Fin.ofNat 16 (r.val + k))).toNat = s.wordAt ((s.reg 15 + BitVec.ofNat 16 (2 * k)).setWidth 21)) ∧
  t.reg 15 = s.reg 15 + BitVec.ofNat 16 (2 * (c.toNat + 1)) ∧
  (∀ x : Reg, x ≠ 15 → x.val < r.val ∨ r.val + (c.toNat + 1) ≤ x.val → t.reg x = s.reg x) ∧
  t.psr = s.psr ∧ ReadOnly s t (stackBytes (s.reg 15) (c.toNat + 1))

section
variable (s : State) {c : BitVec 2} {r : Reg} (h : r.val + c.toNat < 15)
include h

theorem State.popRun_below : s.popRun c r =
    (s.loadRegs (s.reg 15) (runOf r c)).setReg 15 (s.reg 15 + runBytes c) :=
  if_neg fun h' => absurd ((reachesSp_iff r c).1 h') (Nat.not_le_of_lt h)

theorem State.popReturn_below (t : State) (target : Addr) : t.popReturn (reachesSp r c) target = t.setPc target := by
  rw [Bool.eq_false_of_not_eq_true fun h' => absurd ((reachesSp_iff r c).1 h') (Nat.not_le_of_lt h)]
  rfl

/-- Whatever the PC becomes, the run is popped (44_jumps_linkage.md R207 to R209). -/
theorem popped_popRun (a : Addr) : Popped s c r ((s.popRun c r).setPc a) := by
  have hkeeps := (keepsBut_popRun s c r).setPc a
  have hstores : StoresWithin [] s ((s.popRun c r).setPc a) := by
    rw [s.popRun_below h]
    exact storesNothing
  have hdebug := debugOfAccess_loadRegs (runOf r c) s (s.reg 15)
  rw [length_runOf, Nat.min_eq_left (by omega)] at hdebug
  rw [s.popRun_below h] at hkeeps hstores ⊢
  have hreg : ∀ x : Reg, x ≠ 15 → ((s.loadRegs (s.reg 15) (runOf r c)).setReg 15 (s.reg 15 + runBytes c)).reg x =
      (s.loadRegs (s.reg 15) (runOf r c)).reg x := fun x hx => State.reg_setReg_ne _ _ hx
  refine ⟨fun k hk hs => ?_, State.reg_setReg_self _ _ _, fun x hx hout => (hreg x hx).trans ?_, by simp,
    readOnly_of hkeeps hstores (hdebug.of_eq rfl rfl rfl)⟩
  · have hval : (Fin.ofNat 16 (r.val + k)).val = r.val + k := by rw [Fin.val_ofNat]; omega
    have hne : Fin.ofNat 16 (r.val + k) ≠ 15 := fun e => by
      have hsp := congrArg Fin.val e
      rw [hval] at hsp
      change r.val + k = 15 at hsp
      omega
    exact (congrArg BitVec.toNat (hreg _ hne)).trans
      (reg_loadRegs (c.toNat + 1) r.val s (s.reg 15) (by omega) k hk _ hval hs)
  · exact reg_loadRegs_of_notMem _ _ _ _ fun hmem => by
      rw [mem_runOf] at hmem
      omega

end

/-- A code address in one register is even (44_jumps_linkage.md R208). -/
theorem toNat_pc_codeSmall (s : State) (lo : Word) : (s.setPc (codeSmall lo)).pc.toNat = 2 * lo.toNat := by
  rw [State.setPc_pc, toNat_evenAddr, toNat_codeSmall]
  omega

/-- A code address in a pair is even (44_jumps_linkage.md R209). -/
theorem toNat_pc_codeLarge (s : State) (hi lo : Word) :
    (s.setPc (codeLarge hi lo)).pc.toNat = hi.toNat % 16 * 2 ^ 17 + 2 * lo.toNat := by
  rw [State.setPc_pc, toNat_evenAddr, toNat_codeLarge]
  omega

/-- Settles O44: POP goes on, POPRET jumps to what RA, and ERA in the large model, hold after the pop. -/
theorem popCompletes : Obligations.PopCompletes := by
  intro s c r h
  refine ⟨⟨_, rfl, popped_popRun s h _, ?_⟩, ⟨_, rfl, ?_⟩, ⟨_, rfl, ?_⟩⟩
  · exact pcAfter_advance s (by rw [s.popRun_below h]; simp) 2
  · rw [State.popReturn_below h]
    exact ⟨popped_popRun s h _, toNat_pc_codeSmall _ _⟩
  · rw [State.popReturn_below h]
    exact ⟨popped_popRun s h _, toNat_pc_codeLarge _ _ _⟩

/-! ### Runs that reach R15 -/

/-- What an instruction whose run from r reaches R15 leaves as it was, with the n words at a open
(93_implementation_defined.md U12; notes/assumptions/25.md). -/
def OpenRunKept (s : State) (r : Reg) (a : Word) (n : Nat) (as : List Access) (t : State) : Prop :=
  (∀ x : Reg, x.val < r.val → t.reg x = s.reg x) ∧ t.psr = s.psr ∧ MemoryBut s t (stackBytes a n) ∧ StoreOnly s t as

section
variable (s : State) {c : BitVec 2} {r : Reg} (h : 15 ≤ r.val + c.toNat)
include h

theorem State.pushRun_reaching : ∃ n v, s.pushRun c r =
    (((s.storeFree (s.reg 15 - runBytes c) (c.toNat + 1)).freeRegs (runOf r c)).setFresh n).setReg 15 v :=
  ⟨_, _, if_pos ((reachesSp_iff r c).2 h)⟩

theorem State.popRun_reaching : ∃ n v, s.popRun c r =
    ((((s.loadRegs (s.reg 15) (runOf r c)).freeWords (s.reg 15) (c.toNat + 1)).freeRegs (runOf r c)).setFresh
      n).setReg 15 v :=
  ⟨_, _, if_pos ((reachesSp_iff r c).2 h)⟩

omit h in
/-- Free values in a run that reaches R15, and in SP, leave the registers below it. -/
theorem reg_freeRun_of_lt (n : Nat) (v : Word) {x : Reg} (hx : x.val < r.val) :
    (((s.freeRegs (runOf r c)).setFresh n).setReg 15 v).reg x = s.reg x := by
  have hne : x ≠ 15 := fun e => by
    have hr := r.isLt
    have hsp : x.val = 15 := congrArg Fin.val e
    omega
  rw [State.reg_setReg_ne _ _ hne, State.setFresh_reg, reg_freeRegs_of_notMem]
  rw [mem_runOf]
  omega

/-- PUSH (44_jumps_linkage.md R206). -/
theorem openRunKept_pushRun (pc : Addr) :
    OpenRunKept s r (s.reg 15 - runBytes c) (c.toNat + 1)
      (writes (stackBytes (s.reg 15 - runBytes c) (c.toNat + 1))) ((s.pushRun c r).setPc pc) := by
  have hkeeps := (keepsBut_pushRun s c r).setPc pc
  have hstores : StoresWithin _ s ((s.pushRun c r).setPc pc) := (storesWithin_pushRun s c r).other
  have hdebug := debugOfAccess_storeFree s (s.reg 15 - runBytes c) (c.toNat + 1)
  obtain ⟨n, v, e⟩ := s.pushRun_reaching h
  rw [e] at hkeeps hstores ⊢
  refine ⟨fun x hx => (reg_freeRun_of_lt _ n v hx).trans (by simp), by simp, hstores.memory,
    storeOnly_of hkeeps hstores (hdebug.of_eq (by simp) (by simp) (by simp))⟩

/-- POP and POPRET, whatever the PC becomes (44_jumps_linkage.md R207 to R209). -/
theorem openRunKept_popRun (m : Nat) (pc : Addr) :
    OpenRunKept s r (s.reg 15) (c.toNat + 1) (reads (stackBytes (s.reg 15) (min (c.toNat + 1) (16 - r.val))))
      (((s.popRun c r).setFresh m).setPc pc) := by
  have hkeeps : KeepsBut [] s (((s.popRun c r).setFresh m).setPc pc) := (keepsBut_popRun s c r).other
  have hstores : StoresWithin (openStack s c r) s (((s.popRun c r).setFresh m).setPc pc) :=
    (storesWithin_popRun s c r).other
  rw [openStack, if_pos h] at hstores
  have hdebug := debugOfAccess_loadRegs (runOf r c) s (s.reg 15)
  rw [length_runOf] at hdebug
  obtain ⟨n, v, e⟩ := s.popRun_reaching h
  rw [e] at hkeeps hstores ⊢
  refine ⟨fun x hx => (reg_freeRun_of_lt _ n v hx).trans ?_, by simp, hstores.memory,
    storeOnly_of hkeeps hstores (hdebug.of_eq (by simp) (by simp) (by simp))⟩
  rw [State.freeWords_reg, reg_loadRegs_of_notMem]
  rw [mem_runOf]
  omega

/-- POPRET jumps to a free address (93_implementation_defined.md U12). -/
theorem State.popReturn_reaching (t : State) (target : Addr) : t.popReturn (reachesSp r c) target =
    (t.setFresh (t.fresh + 1)).setPc (Config.freeAddr t.fresh) := by
  rw [(reachesSp_iff r c).2 h]
  rfl

end

/-- Settles O45: PUSH and POP go on, POPRET jumps to a free address; each leaves the same as it was. -/
theorem stackRunReachingSp : Obligations.StackRunReachingSp := by
  intro s c r h
  have hpopret : ∀ target, Completes (.next ((s.popRun c r).popReturn (reachesSp r c) target)) (OpenRunKept s r
      (s.reg 15) (c.toNat + 1) (reads (stackBytes (s.reg 15) (min (c.toNat + 1) (16 - r.val))))) := fun target => by
    rw [State.popReturn_reaching h]
    exact ⟨_, rfl, openRunKept_popRun s h _ _⟩
  refine ⟨⟨_, rfl, openRunKept_pushRun s h _, pcAfter_advance s ?_ 2⟩,
    ⟨_, rfl, openRunKept_popRun s h (s.popRun c r).fresh _, pcAfter_advance s ?_ 2⟩, hpopret _, hpopret _⟩
  · obtain ⟨n, v, e⟩ := s.pushRun_reaching h
    rw [e]
    simp
  · obtain ⟨n, v, e⟩ := s.popRun_reaching h
    rw [e]
    simp

end Sys2Proof.Machine
end

section
/-! SUPPORT. LOADi and STORi (45_procreg_loadstore_misc.md R225 to R235): the effective addresses as numbers, and the
immediates of the stores; each form runs the shared load or store at its effective address. -/

namespace Sys2Proof.Machine

/-! ### Effective addresses as numbers -/

section
variable (s : State) (base : Reg) (r : Restricted)

/-- disp5(Rbase), unsigned (45_procreg_loadstore_misc.md R225). -/
theorem toNat_eaDisp5 (d : BitVec 5) : (s.eaDisp5 base d).toNat = ((s.reg base).toNat + d.toNat) % 2 ^ 18 := by
  have hd := d.isLt
  have hbase := (s.reg base).isLt
  rw [State.eaDisp5, toNat_dTruncate18, BitVec.toNat_add, BitVec.toNat_setWidth, BitVec.toNat_setWidth]
  omega

/-- disp18(Rbase), the displacement signed (45_procreg_loadstore_misc.md R226). -/
theorem toNat_eaDisp18_signed (d : BitVec 18) :
    ((s.eaDisp18 base d).toNat : Int) = ((s.reg base).toNat + d.toInt) % 2 ^ 18 := by
  have hbase := (s.reg base).isLt
  rw [State.eaDisp18, toNat_dTruncate18, BitVec.toNat_add, BitVec.toNat_setWidth, toNat_signExtend21]
  omega

/-- In an 18-bit sum it makes no difference whether an 18-bit displacement is signed
(45_procreg_loadstore_misc.md R226). -/
theorem toNat_eaDisp18_unsigned (d : BitVec 18) :
    (s.eaDisp18 base d).toNat = ((s.reg base).toNat + d.toNat) % 2 ^ 18 := by
  have hmod : d.toInt % 2 ^ 18 = (d.toNat : Int) % 2 ^ 18 := by
    rw [BitVec.toInt_eq_toNat_bmod]
    exact Int.bmod_emod
  have hsigned := toNat_eaDisp18_signed s base d
  omega

/-- disp18(Rbase+1, Rbase): 21 bits, five of them from the higher register (45_procreg_loadstore_misc.md R227). -/
theorem toNat_eaFar (d : BitVec 18) : ((s.eaFar base d).toNat : Int) =
    ((s.reg (base + 1)).toNat % 32 * 2 ^ 16 + (s.reg base).toNat + d.toInt) % 2 ^ 21 := by
  rw [State.eaFar, pairHigh, BitVec.toNat_add, toNat_append_eq_mul_add, toNat_extractLsb', toNat_signExtend21]
  omega

/-- abs18 (45_procreg_loadstore_misc.md R228). -/
theorem toNat_eaAbs (a : BitVec 18) : (eaAbs a).toNat = a.toNat := by
  have ha := a.isLt
  rw [eaAbs, toNat_dTruncate18, BitVec.toNat_setWidth]
  omega

/-- 0(Rbase) (43_bits.md R181). -/
theorem toNat_eaBase : (s.eaBase r).toNat = (s.reg (restrictedReg r)).toNat := by
  have hbase := (s.reg (restrictedReg r)).isLt
  rw [State.eaBase, toNat_dTruncate18, BitVec.toNat_setWidth]
  omega

/-- disp16(Rbase): a sum of two words does not reach 2^18 (43_bits.md R181). -/
theorem toNat_eaDisp16 (d : BitVec 16) :
    (s.eaDisp16 r d).toNat = (s.reg (restrictedReg r)).toNat + d.toNat := by
  have hd := d.isLt
  have hbase := (s.reg (restrictedReg r)).isLt
  rw [State.eaDisp16, toNat_dTruncate18, BitVec.toNat_add, BitVec.toNat_setWidth, BitVec.toNat_setWidth]
  omega

end

/-- Settles O22, one address function after the other. -/
theorem effectiveAddresses : Obligations.EffectiveAddresses := fun s base r d5 d18 d16 =>
  ⟨toNat_eaDisp5 s base d5, toNat_eaDisp18_signed s base d18, toNat_eaDisp18_unsigned s base d18,
    toNat_eaFar s base d18, toNat_eaAbs d18, toNat_eaBase s r, toNat_eaDisp16 s r d16⟩

/-! ### Loads and stores -/

/-- Settles O46: each form loads the byte or the word at its effective address. -/
theorem loadCompletes : Obligations.LoadCompletes := fun s r _ _ _ =>
  ⟨loadByteInto_effect s r _ 2, loadByteInto_effect s r _ 4, loadByteInto_effect s r _ 4, loadByteInto_effect s r _ 4,
    loadWordInto_effect s r _ 2, loadWordInto_effect s r _ 4, loadWordInto_effect s r _ 4, loadWordInto_effect s r _ 4⟩

/-- Settles O47: each form stores the low byte of the register, or the register; no byte changes where no RAM stands
(notes/assumptions/26.md). -/
theorem storeCompletes : Obligations.StoreCompletes := by
  intro s r base d5 d18
  have byte := fun ea len => storeByteAt_effect s ea (s.regByte r) _ len (toNat_regByte s r)
  have word := fun ea len => storeWordAt_effect s ea (s.reg r) _ len (low_16 s r).symm
  exact ⟨byte _ 2, byte _ 4, byte _ 4, byte _ 4, word _ 2, word _ 4, word _ 4, word _ 4⟩

/-- The immediate of STORB (45_procreg_loadstore_misc.md R234; 92_eei_decisions.md D10). -/
theorem toNat_imm4Byte (s : State) (imm : BitVec 4) : (s.imm4Byte imm).toNat =
    if s.platform.storImm4Signed then (imm.toInt % 2 ^ 8).toNat else imm.toNat := by
  rw [State.imm4Byte]
  split
  · exact toNat_signExtend 8 imm
  · exact BitVec.toNat_setWidth_of_le (by decide)

/-- The immediate of STORW (45_procreg_loadstore_misc.md R235; 92_eei_decisions.md D10). -/
theorem toNat_imm4Word (s : State) (imm : BitVec 4) : (s.imm4Word imm).toNat =
    if s.platform.storImm4Signed then (imm.toInt % 2 ^ 16).toNat else imm.toNat := by
  rw [State.imm4Word]
  split
  · exact toNat_signExtend 16 imm
  · exact BitVec.toNat_setWidth_of_le (by decide)

/-- Settles O48: each form stores the extended immediate; no byte changes where no RAM stands
(notes/assumptions/26.md). -/
theorem storeImmediateCompletes : Obligations.StoreImmediateCompletes := by
  intro s imm q disp addr
  have byte := fun ea len => storeByteAt_effect s ea (s.imm4Byte imm) _ len (toNat_imm4Byte s imm)
  have word := fun ea len => storeWordAt_effect s ea (s.imm4Word imm) _ len (toNat_imm4Word s imm)
  exact ⟨byte _ 2, byte _ 4, byte _ 4, word _ 2, word _ 4, word _ 4⟩

end Sys2Proof.Machine
end

section
/-! SUPPORT. LOADM and STORM (45_procreg_loadstore_misc.md R236, R237): a run of one to four registers from R2, which
reaches neither its pointer nor R15. -/

namespace Sys2Proof.Machine

theorem exec_loadm (s : State) (c : BitVec 2) : exec (.loadm c) s =
    .next (((s.loadRegs (s.reg 0) (runOf 2 c)).setReg 0 (s.reg 0 + runBytes c)).advance 2) := rfl

theorem exec_storm (s : State) (c : BitVec 2) : exec (.storm c) s =
    .next (((s.storeWords (s.reg 1) ((runOf 2 c).map s.reg)).setReg 1 (s.reg 1 + runBytes c)).advance 2) := rfl

/-- A run from R2 ends at R5 or below. -/
theorem runFromR2_below (c : BitVec 2) : (2 : Reg).val + c.toNat < 15 := by
  have hc := c.isLt
  change 2 + c.toNat < 15
  omega

/-- The accesses of a load of a run that ends below R15 (60_exceptions.md R281; 92_eei_decisions.md D12). -/
theorem debugOfAccess_loadRun (s : State) {c : BitVec 2} {r : Reg} (a : Word) (h : r.val + c.toNat < 15) :
    DebugOfAccess s (s.loadRegs a (runOf r c)) (reads (stackBytes a (c.toNat + 1))) := by
  have hdebug := debugOfAccess_loadRegs (runOf r c) s a
  rwa [length_runOf, Nat.min_eq_left (by omega)] at hdebug

section
variable (s : State) (c : BitVec 2)

/-- The words a run from R2 loads, where RAM or ROM stands (45_procreg_loadstore_misc.md R236). -/
theorem reg_loadRunFromR2 (a : Word) {k : Nat} (hk : k < c.toNat + 1)
    (hs : s.storedWord ((a + BitVec.ofNat 16 (2 * k)).setWidth 21)) :
    ((s.loadRegs a (runOf 2 c)).reg (Fin.ofNat 16 (2 + k))).toNat =
      s.wordAt ((a + BitVec.ofNat 16 (2 * k)).setWidth 21) := by
  have hc := c.isLt
  exact reg_loadRegs (c.toNat + 1) 2 s a (by omega) k hk _ (Nat.mod_eq_of_lt (by omega)) hs

theorem regs_loadRunFromR2 (a : Word) {x : Reg} (hx : x.val < 2 ∨ 2 + (c.toNat + 1) ≤ x.val) :
    (s.loadRegs a (runOf 2 c)).reg x = s.reg x := by
  refine reg_loadRegs_of_notMem _ _ _ _ fun hmem => ?_
  obtain ⟨hlow, hhigh⟩ := (mem_runOf 2 c x).1 hmem
  change 2 ≤ x.val at hlow
  change x.val < 2 + (c.toNat + 1) at hhigh
  omega

/-- The pointer of LOADM is not among the registers it loads. -/
theorem runFromR2_ne_zero {k : Nat} (hk : k < c.toNat + 1) : (Fin.ofNat 16 (2 + k) : Reg) ≠ 0 := fun e => by
  have hc := c.isLt
  have hval : (2 + k) % 16 = 0 := congrArg Fin.val e
  omega

/-- LOADM reads its words and stores nothing (45_procreg_loadstore_misc.md R236). -/
theorem readOnly_loadm (v : Word) : ReadOnly s (((s.loadRegs (s.reg 0) (runOf 2 c)).setReg 0 v).advance 2)
    (stackBytes (s.reg 0) (c.toNat + 1)) := by
  have hdebug := debugOfAccess_loadRun s (s.reg 0) (runFromR2_below c)
  exact readOnly_of ((((KeepsBut.refl s).access hdebug).setReg 0 v).advance 2) storesNothing
    (hdebug.of_eq rfl rfl rfl)

/-- STORM stores its words and nothing else; no byte changes where no RAM stands (45_procreg_loadstore_misc.md R237;
notes/assumptions/26.md). -/
theorem storesWithin_storm (v : Word) : StoresWithin (stackBytes (s.reg 1) (c.toNat + 1)) s
    (((s.storeWords (s.reg 1) ((runOf 2 c).map s.reg)).setReg 1 v).advance 2) := by
  have hrun : 2 + (c.toNat + 1) ≤ 16 := by omega
  exact ((storesWithin_storeRun s (s.reg 1) hrun).setReg 1 v).advance 2

theorem storeOnly_storm (v : Word) : StoreOnly s
    (((s.storeWords (s.reg 1) ((runOf 2 c).map s.reg)).setReg 1 v).advance 2)
    (writes (stackBytes (s.reg 1) (c.toNat + 1))) := by
  have hdebug := debugOfAccess_storeRun s (s.reg 1) (runFromR2_below c)
  exact storeOnly_of ((((KeepsBut.refl s).access hdebug).setReg 1 v).advance 2) (storesWithin_storm s c v)
    (hdebug.of_eq rfl rfl rfl)

end

/-- STORM sets bit 7 above its count (30_encoding.md R111). -/
theorem toNat_encCount_storm (c : BitVec 2) : (encCount false true c).toNat = 4 + c.toNat := by
  revert c; decide

/-- Settles O49: the run is loaded upwards from R0, which is raised after it. -/
theorem loadMultipleCompletes : Obligations.LoadMultipleCompletes := by
  refine ⟨fun s c => ?_, fun c => wordIs_encSpecial rfl rfl ?_⟩
  · rw [exec_loadm]
    refine ⟨_, rfl, fun k hk hs => ?_, State.reg_setReg_self _ _ _, fun x hx hout => ?_, by simp,
      pcAfter_advance s (by simp) 2, readOnly_loadm s c _⟩
    · rw [State.advance_reg, State.reg_setReg_ne _ _ (runFromR2_ne_zero c hk), reg_loadRunFromR2 s c _ hk hs]
    · rw [State.advance_reg, State.reg_setReg_ne _ _ hx, regs_loadRunFromR2 s c _ hout]
  · rw [toNat_encCount_push]
    simp only [BitVec.toNat_ofNat]
    omega

/-- Settles O50: the run is stored upwards from R1, which is raised after it; no byte changes where no RAM stands
(notes/assumptions/26.md). -/
theorem storeMultipleCompletes : Obligations.StoreMultipleCompletes := by
  refine ⟨fun s c => ?_, fun c => wordIs_encSpecial rfl rfl ?_⟩
  · rw [exec_storm]
    exact ⟨_, rfl, fun hwf => wordsStored_storeRun s hwf _ (runFromR2_below c), (storesWithin_storm s c _).memory,
      State.reg_setReg_self _ _ _, fun x hx => (regsBut_setReg _ _ _ x hx).trans (by simp), by simp,
      pcAfter_advance s (by simp) 2, storeOnly_storm s c _⟩
  · rw [toNat_encCount_storm]
    simp only [BitVec.toNat_ofNat]
    omega

end Sys2Proof.Machine
end

section
/-! SUPPORT. LPR and SPR of the assigned codes (45_procreg_loadstore_misc.md R220 to R222): a masked write bit by bit,
what each register holds after LPR and gives to SPR, and that nothing else changes. -/

namespace Sys2Proof.Machine

/-! ### Masked writes -/

/-- A masked write takes the bits of the mask from the new value and keeps the others. -/
theorem getLsbD_maskedWrite (w v mask : Word) (k : Nat) :
    (maskedWrite w v mask).getLsbD k = if mask.getLsbD k then v.getLsbD k else w.getLsbD k := by
  by_cases hk : k < 16
  · rw [maskedWrite, BitVec.getLsbD_or, BitVec.getLsbD_and, BitVec.getLsbD_and, BitVec.getLsbD_not]
    cases mask.getLsbD k <;> simp [hk]
  · simp [BitVec.getLsbD_of_ge _ _ (Nat.le_of_not_lt hk)]

/-- A mask without bit 0 makes a word even. -/
theorem toNat_and_even (v : Word) : (v &&& 0xFFFE#16).toNat = v.toNat / 2 * 2 := by
  have hclear : (v &&& 0xFFFE#16).toNat = v.toNat - (if v.getLsbD 0 then 1 else 0) :=
    toNat_withBit_false v (k := 0) (by decide)
  have hbit : (if v.getLsbD 0 then 1 else 0) = v.toNat % 2 := by
    have hmod := toNat_getLsbD v 0
    rw [pow_zero, Nat.div_one] at hmod
    rw [← hmod]
    cases v.getLsbD 0 <;> rfl
  rw [hclear, hbit]
  omega

/-! ### The two parts of INTBASE and CAR (10_state.md R38, R43) -/

theorem toNat_highPart (a : Addr) : (a.extractLsb' 16 5).toNat = a.toNat / 2 ^ 16 := by
  have ha := a.isLt
  rw [toNat_extractLsb']
  omega

theorem toNat_lowPart (a : Addr) : (a.extractLsb' 0 16).toNat = a.toNat % 2 ^ 16 := by
  rw [toNat_extractLsb', pow_zero, Nat.div_one]

theorem toNat_lowFive (w : Word) : (w.extractLsb' 0 5).toNat = w.toNat % 32 := by
  rw [toNat_extractLsb', pow_zero, Nat.div_one]
  rfl

/-! ### What LPR writes -/

section
variable (s : State) (v : Word)

/-- PSR: bits 11:0 but 3, 4 and 8 (10_state.md R36; 93_implementation_defined.md U1). -/
theorem State.flag_writePsr {k : Nat} (hk : k < 12) :
    (s.writePsr v).flag k = (v.getLsbD k && decide (k ∉ [3, 4, 8])) := by
  have hreserved : decide (12 ≤ k ∧ k < 16) = false := decide_eq_false fun h => absurd hk (Nat.not_lt_of_le h.1)
  unfold State.writePsr State.flag
  split
  · rw [State.setPsr_psr, BitVec.getLsbD_and, getLsbD_psrDefined]
    simp [hk]
  · rw [State.setPsr_psr, BitVec.getLsbD_or, BitVec.getLsbD_and, BitVec.getLsbD_and, getLsbD_psrDefined,
      getLsbD_highNibble, hreserved]
    simp [hk]

theorem State.toNat_intbase_writeLow : (s.writeProc .intbaseL v).intbase.toNat =
    s.intbase.toNat / 2 ^ 16 * 2 ^ 16 + v.toNat / 2 * 2 := by
  rw [State.writeProc, State.setIntbase_intbase, toNat_append_eq_mul_add, toNat_highPart, toNat_and_even]

theorem State.toNat_intbase_writeHigh : (s.writeProc .intbaseH v).intbase.toNat =
    v.toNat % 32 * 2 ^ 16 + s.intbase.toNat % 2 ^ 16 := by
  rw [State.writeProc, State.setIntbase_intbase, toNat_append_eq_mul_add, toNat_lowPart, toNat_lowFive]

theorem State.cfgEd_writeProc : (s.writeProc .cfg v).cfgEd = v.getLsbD 8 := getLsbD_maskedWrite s.cfg v cfgDefined 8

theorem State.dsr_writeProc {k : Nat} (hk : k < 4) : (s.writeProc .dsr v).dsr.getLsbD k = v.getLsbD k := by
  have hmask : dsrDefined.getLsbD k = true := by revert k; decide
  rw [State.writeProc, State.setDsr_dsr, getLsbD_maskedWrite, if_pos hmask]

/-- The bits of DCR that DBGL does not lock (10_state.md R41). -/
theorem State.dcr_writeProc_unlocked {k : Nat} (hk : k ∈ [0, 1, 4, 5, 6, 7, 8]) :
    (s.writeProc .dcr v).dcr.getLsbD k = v.getLsbD k := by
  have hlocked : (dcrDefined &&& ~~~dcrLocked).getLsbD k = true := by revert k; decide
  have hdefined : dcrDefined.getLsbD k = true := by revert k; decide
  have hmask : (dcrWritable s.dcr).getLsbD k = true := by
    unfold dcrWritable
    split
    · exact hlocked
    · exact hdefined
  rw [State.writeProc, State.setDcr_dcr, getLsbD_maskedWrite, if_pos hmask]

/-- The bits of DCR that DBGL locks, DBGL among them (10_state.md R41; notes/assumptions/29.md). -/
theorem State.dcr_writeProc_locked {k : Nat} (hk : k ∈ [10, 11, 12, 13, 15]) :
    (s.writeProc .dcr v).dcr.getLsbD k = if s.dcr.getLsbD 15 then s.dcr.getLsbD k else v.getLsbD k := by
  cases hlock : s.dcr.getLsbD 15 with
  | true => exact lockKept_writeProc s .dcr v hlock k (by revert k; decide)
  | false =>
    have hmask : (dcrWritable s.dcr).getLsbD k = true := by
      rw [dcrWritable, dcrDbgl, hlock]
      revert k; decide
    rw [State.writeProc, State.setDcr_dcr, getLsbD_maskedWrite, if_pos hmask]
    rfl

theorem State.toNat_isp_writeProc : (s.writeProc .isp v).isp.toNat = v.toNat / 2 * 2 := by
  rw [State.writeProc, State.setIsp_isp, BitVec.toNat_setWidth_of_le (by decide), toNat_and_even]

theorem State.toNat_car_writeLow : (s.writeProc .carL v).car.toNat = s.car.toNat / 2 ^ 16 * 2 ^ 16 + v.toNat := by
  rw [State.writeProc, State.setCar_car, toNat_append_eq_mul_add, toNat_highPart]

theorem State.toNat_car_writeHigh : (s.writeProc .carH v).car.toNat =
    v.toNat % 32 * 2 ^ 16 + s.car.toNat % 2 ^ 16 := by
  rw [State.writeProc, State.setCar_car, toNat_append_eq_mul_add, toNat_lowPart, toNat_lowFive]

end

/-! ### What LPR leaves as it was -/

/-- The place in specialsOf of the register LPR and SPR name. -/
def ProcReg.place (p : ProcReg) : Nat :=
  match p with
  | .psr => 0
  | .intbaseL | .intbaseH => 1
  | .cfg => 2
  | .dsr => 3
  | .dcr => 4
  | .isp => 5
  | .carL | .carH => 6

/-- LPR replaces one of the special registers. -/
theorem specialsOf_writeProc (s : State) (p : ProcReg) (v : Word) :
    ∃ n, specialsOf (s.writeProc p v) = (specialsOf s).set p.place n := by
  cases p with
  | psr => exact ⟨(s.writePsr v).psr.toNat, by simp [specialsOf, State.writeProc, ProcReg.place]⟩
  | intbaseL | intbaseH | cfg | dsr | dcr | isp | carL | carH => exact ⟨_, rfl⟩

theorem specialsBut_writeProc (s : State) (p : ProcReg) (v : Word) : SpecialsBut s (s.writeProc p v) p.place := by
  intro k hk
  obtain ⟨n, hset⟩ := specialsOf_writeProc s p v
  rw [hset, List.getElem?_set_ne hk.symm]

theorem exec_lpr_assigned {c : BitVec 4} {p : ProcReg} (hc : procRegOf c = some p) (src : Reg) (s : State) :
    exec (.lpr src c) s = .next ((s.writeProc p (s.reg src)).advance 2).serialize := by
  change execLpr src c s = _
  unfold execLpr
  rw [hc]

/-- LPR of an assigned code writes its register, advances and serializes (45_procreg_loadstore_misc.md R220). -/
theorem lpr_effect {c : BitVec 4} {p : ProcReg} (hc : procRegOf c = some p) (s : State) (src : Reg)
    {P : State → Prop} (hP : P ((s.writeProc p (s.reg src)).advance 2).serialize) : LprEffect s src c p.place P := by
  unfold LprEffect
  rw [exec_lpr_assigned hc]
  exact ⟨_, rfl, hP, specialsBut_writeProc s p _, fun r _ => State.writeProc_reg s p _ r,
    pcAfter_advance s (State.writeProc_pc s p _) 2, ⟨.of_mem (State.writeProc_mem s p _) [],
      State.writeProc_opState s p _, State.writeProc_dbgPending s p _, State.writeProc_pins s p _,
      State.writeProc_pinsAhead s p _, State.writeProc_platform s p _⟩, rfl⟩

/-! ### What SPR reads -/

/-- A reserved register reads as it stands in the bits of its mask (93_implementation_defined.md U7). -/
theorem State.getLsbD_readReserved (s : State) (w : Word) {mask : Word} {k : Nat} (hk : mask.getLsbD k = true) :
    (s.readReserved w mask).1.getLsbD k = w.getLsbD k := by
  rw [State.readReserved, getLsbD_maskedWrite, if_pos hk]

section
variable (s : State)

/-- PSR: bits 3, 4 and 8 read 0, bits 15:12 are open (93_implementation_defined.md U7). -/
theorem State.readProc_psrBit {k : Nat} (hk : k < 12) :
    (s.readProc .psr).1.getLsbD k = (s.flag k && decide (k ∉ [3, 4, 8])) := by
  have hmask : (0x0FFF#16).getLsbD k = true := by revert k; decide
  rw [State.readProc, State.getLsbD_readReserved s _ hmask, BitVec.getLsbD_and, getLsbD_psrDefined]
  simp [State.flag, hk]

theorem State.toNat_readProc_intbaseH : (s.readProc .intbaseH).1.toNat = s.intbase.toNat / 2 ^ 16 := by
  rw [State.readProc, BitVec.toNat_setWidth_of_le (by decide), toNat_highPart]

/-- CARH: bits 15:5 are open (93_implementation_defined.md U7; notes/assumptions/18.md). -/
theorem State.toNat_readProc_carH : (s.readProc .carH).1.toNat % 32 = s.car.toNat / 2 ^ 16 := by
  have hbits : (s.readProc .carH).1.extractLsb' 0 5 = s.car.extractLsb' 16 5 := by
    refine BitVec.eq_of_getLsbD_eq fun k hk => ?_
    have hmask : (0x001F#16).getLsbD k = true := by revert k; decide
    have hlow : k < 16 := by omega
    rw [BitVec.getLsbD_extractLsb', decide_eq_true hk, Bool.true_and, Nat.zero_add, State.readProc,
      State.getLsbD_readReserved s _ hmask, BitVec.getLsbD_setWidth, decide_eq_true hlow, Bool.true_and]
  have hnat := congrArg BitVec.toNat hbits
  rwa [toNat_highPart, toNat_lowFive] at hnat

theorem specialsOf_readProc (p : ProcReg) : specialsOf (s.readProc p).2 = specialsOf s := by
  simp [specialsOf]

end

theorem exec_spr_assigned {c : BitVec 4} {p : ProcReg} (hc : procRegOf c = some p) (dest : Reg) (s : State) :
    exec (.spr c dest) s = .next ((s.readProc p).2.resultWord dest (s.readProc p).1 2).serialize := by
  change execSpr c dest s = _
  unfold execSpr
  rw [hc]

/-- SPR of an assigned code writes its general register, advances and serializes
(45_procreg_loadstore_misc.md R221). -/
theorem spr_effect {c : BitVec 4} {p : ProcReg} (hc : procRegOf c = some p) (s : State) (d : Reg)
    {P : Word → Prop} (hP : P (s.readProc p).1) : SprEffect s c d P := by
  unfold SprEffect
  rw [exec_spr_assigned hc]
  refine ⟨_, rfl, ?_, fun r hr => (regsBut_setReg _ d _ r hr).trans (State.readProc_reg s p r),
    specialsOf_readProc s p, pcAfter_advance s (State.readProc_pc s p) 2, ⟨.of_mem (State.readProc_mem s p) [],
      State.readProc_opState s p, State.readProc_dbgPending s p, State.readProc_pins s p,
      State.readProc_pinsAhead s p, State.readProc_platform s p⟩, rfl⟩
  have hreg : ((s.readProc p).2.resultWord d (s.readProc p).1 2).serialize.reg d = (s.readProc p).1 :=
    State.reg_setReg_self _ _ _
  rwa [hreg]

/-- Settles O51: the nine registers under LPR, then under SPR. -/
theorem lprCompletes : Obligations.LprCompletes := by
  intro s r d
  exact ⟨lpr_effect (p := .psr) rfl s r fun k hk => s.flag_writePsr _ hk,
    lpr_effect (p := .intbaseL) rfl s r (s.toNat_intbase_writeLow _),
    lpr_effect (p := .intbaseH) rfl s r (s.toNat_intbase_writeHigh _),
    lpr_effect (p := .cfg) rfl s r (s.cfgEd_writeProc _),
    lpr_effect (p := .dsr) rfl s r fun k hk => s.dsr_writeProc _ hk,
    lpr_effect (p := .dcr) rfl s r ⟨fun k hk => s.dcr_writeProc_unlocked _ hk, fun k hk => s.dcr_writeProc_locked _ hk⟩,
    lpr_effect (p := .isp) rfl s r (s.toNat_isp_writeProc _),
    lpr_effect (p := .carL) rfl s r (s.toNat_car_writeLow _),
    lpr_effect (p := .carH) rfl s r (s.toNat_car_writeHigh _),
    spr_effect (p := .psr) rfl s d fun k hk => s.readProc_psrBit hk,
    spr_effect (p := .intbaseL) rfl s d (toNat_lowPart _),
    spr_effect (p := .intbaseH) rfl s d s.toNat_readProc_intbaseH,
    spr_effect (p := .cfg) rfl s d (s.getLsbD_readReserved _ rfl),
    spr_effect (p := .dsr) rfl s d fun k hk => s.getLsbD_readReserved _ (by revert k; decide),
    spr_effect (p := .dcr) rfl s d fun k hk => s.getLsbD_readReserved _ (by revert k; decide),
    spr_effect (p := .isp) rfl s d (toNat_lowPart _),
    spr_effect (p := .carL) rfl s d (toNat_lowPart _),
    spr_effect (p := .carH) rfl s d s.toNat_readProc_carH⟩

end Sys2Proof.Machine
end

section
/-! SUPPORT. DI, EI, NOP, WAIT and EIWAIT (45_procreg_loadstore_misc.md R238 to R242), and when a maskable interrupt is
accepted (60_exceptions.md R255, R268, R270). -/

namespace Sys2Proof.Machine

/-! ### Maskable interrupts -/

/-- INT is accepted where it is requested with E and I set and no NMI (60_exceptions.md R255, R270). -/
theorem State.acceptedInterrupt_eq_int (s : State) (q : Requests) : s.acceptedInterrupt q = some .int ↔
    q.nmi = false ∧ q.int = true ∧ s.flag psrE = true ∧ s.flag psrI = true := by
  unfold State.acceptedInterrupt
  split_ifs <;> simp_all

/-- While E is 0 no maskable interrupt is accepted, whatever I is (45_procreg_loadstore_misc.md R238). -/
theorem not_accepted_of_disabled {t : State} (h : t.flag psrE = false) (q : Requests) :
    t.acceptedInterrupt q ≠ some .int := fun hint => by
  obtain ⟨_, _, henabled, _⟩ := (t.acceptedInterrupt_eq_int q).1 hint
  rw [h] at henabled
  cases henabled

/-- While E is 1 it is I that decides (45_procreg_loadstore_misc.md R239, R242). -/
theorem accepted_iff_of_enabled {s t : State} (h : t.flag psrE = true) (hI : t.flag psrI = s.flag psrI)
    (q : Requests) (hnmi : q.nmi = false) (hint : q.int = true) :
    t.acceptedInterrupt q = some .int ↔ s.flag psrI = true := by
  rw [t.acceptedInterrupt_eq_int q, hI]
  exact ⟨fun ⟨_, _, _, hi⟩ => hi, fun hi => ⟨hnmi, hint, h, hi⟩⟩

/-! ### What each instruction leaves as it was -/

section
variable (s : State) (b : Bool)

theorem registerOnly_advance (len : Addr) : RegisterOnly s (s.advance len) :=
  registerOnly_of ⟨rfl, rfl, rfl, rfl, rfl, rfl, rfl⟩ ⟨rfl, rfl, rfl⟩ rfl rfl rfl

/-- DI, EI and EIWAIT write E alone (45_procreg_loadstore_misc.md R238, R239, R242). -/
theorem flag_setEnable : (s.setFlag psrE b).flag psrE = b := getLsbD_withBit_self s.psr b (by decide)

theorem registerOnly_setEnable (len : Addr) : RegisterOnly s ((s.setFlag psrE b).advance len) :=
  registerOnly_of ⟨rfl, rfl, rfl, rfl, rfl, rfl, rfl⟩ ⟨rfl, rfl, rfl⟩ rfl rfl rfl

end

/-- Entering the wait state changes the operating state alone (45_procreg_loadstore_misc.md R241). -/
theorem RegisterOnly.thenWait {s t : State} (h : RegisterOnly s t) : SpecialsKept s (t.setOpState .waiting) ∧
    DebugKept s (t.setOpState .waiting) ∧ MemoryBut s (t.setOpState .waiting) [] := by
  obtain ⟨hspecials, hdebug, _, hmemory, _⟩ := h
  exact ⟨hspecials.trans ⟨rfl, rfl, rfl, rfl, rfl, rfl, rfl⟩, hdebug.trans ⟨rfl, rfl, rfl⟩, hmemory⟩

/-- Settles O53, one instruction after the other, then their words. -/
theorem statusInstructionsComplete : Obligations.StatusInstructionsComplete := by
  refine ⟨fun s => ?_, wordIs_of_encode rfl rfl rfl, wordIs_of_encode rfl rfl rfl, wordIs_of_encode rfl rfl rfl,
    wordIs_of_encode rfl rfl rfl, wordIs_of_encode rfl rfl rfl⟩
  have hnext : ∀ {u : State}, u.pc = s.pc → PcAfter s (u.advance 2) 2 := fun hpc => pcAfter_advance s hpc 2
  have hdisabled := flag_setEnable s false
  have henabled := flag_setEnable s true
  have hflags := flagsBut_setFlag s psrE
  have hI : (s.setFlag psrE true).flag psrI = s.flag psrI := hflags true psrI (by decide)
  obtain ⟨hspecials, hdebug, hmemory⟩ := (registerOnly_advance s 2).thenWait
  obtain ⟨hspecials', hdebug', hmemory'⟩ := (registerOnly_setEnable s true 2).thenWait
  exact ⟨⟨s.advance 2, rfl, rfl, .refl s [], hnext rfl, registerOnly_advance s 2⟩,
    ⟨_, rfl, hdisabled, hflags false, .refl s [], hnext rfl, registerOnly_setEnable s false 2,
      not_accepted_of_disabled hdisabled⟩,
    ⟨_, rfl, henabled, hflags true, .refl s [], hnext rfl, registerOnly_setEnable s true 2,
      accepted_iff_of_enabled henabled hI⟩,
    ⟨(s.advance 2).setOpState .waiting, rfl, rfl, .refl s [], hnext rfl, rfl, hspecials, hdebug, hmemory⟩,
    ⟨_, rfl, henabled, hflags true, .refl s [], hnext rfl, rfl, hspecials', hdebug', hmemory',
      accepted_iff_of_enabled henabled hI⟩⟩

end Sys2Proof.Machine
end

section
/-! SUPPORT. What a step takes at an instruction boundary and in the wait state, in order of priority
(60_exceptions.md R255 to R257, R268, R270, R272, R288; 92_eei_decisions.md D11). -/

namespace Sys2Proof.Machine

/-! ### The accepted interrupt -/

section
variable (s : State) (q : Requests)

/-- INT is requested with E and I both 1 (60_exceptions.md R255). -/
def State.intRequested : Prop := q.int = true ∧ s.flag psrE = true ∧ s.flag psrI = true

theorem State.intRequested_iff : s.intRequested q ↔ (q.int && s.flag psrE && s.flag psrI) = true := by
  simp only [State.intRequested, Bool.and_eq_true, and_assoc]

variable {s q}

theorem State.acceptedInterrupt_nmi (hnmi : q.nmi = true) : s.acceptedInterrupt q = some .nmi := if_pos hnmi

variable (hnmi : q.nmi = false)
include hnmi

theorem State.acceptedInterrupt_int (hint : s.intRequested q) : s.acceptedInterrupt q = some .int :=
  (s.acceptedInterrupt_eq_int q).2 ⟨hnmi, hint⟩

variable (hint : ¬ s.intRequested q)
include hint

/-- Without NMI and INT it is ISE that decides (60_exceptions.md R270). -/
theorem State.acceptedInterrupt_last : s.acceptedInterrupt q = if q.ise then some .ise else none := by
  rw [State.intRequested_iff] at hint
  rw [State.acceptedInterrupt, hnmi, if_neg Bool.false_ne_true, if_neg hint]

theorem State.acceptedInterrupt_ise (hise : q.ise = true) : s.acceptedInterrupt q = some .ise := by
  rw [State.acceptedInterrupt_last hnmi hint, if_pos hise]

theorem State.acceptedInterrupt_none (hise : q.ise = false) : s.acceptedInterrupt q = none := by
  rw [State.acceptedInterrupt_last hnmi hint, hise, if_neg Bool.false_ne_true]

end

/-! ### The exception of a boundary -/

section
variable {s : State}

theorem State.debugDue_iff : s.debugDue = true ↔
    s.dbgPending = true ∨ (s.dcr.getLsbD dcrEfb = true ∧ s.pins.tag = true) := by
  rw [State.debugDue, Bool.or_eq_true, Bool.and_eq_true]

theorem State.boundaryException_debug (h : s.debugDue = true) : s.boundaryException = some .dbg := if_pos h

variable (hdbg : ¬ s.debugDue = true)
include hdbg

theorem State.boundaryException_interrupt {x : Exception} (h : s.acceptedInterrupt s.pins.atBoundary = some x) :
    s.boundaryException = some x := by
  rw [State.boundaryException, if_neg hdbg, h]

/-- Without DBG and an interrupt it is P that decides (60_exceptions.md R270). -/
theorem State.boundaryException_last (h : s.acceptedInterrupt s.pins.atBoundary = none) :
    s.boundaryException = if s.flag psrP then some .trc else none := by
  rw [State.boundaryException, if_neg hdbg, h]

end

/-! ### A step without a reset -/

section
variable {s : State}

theorem step_noReset (h : s.noReset) : step s = s.sample.coreStep := by
  obtain ⟨hreset, hinside⟩ := h
  rw [step, State.cycle, State.sampledStep, hreset, hinside]
  cases s.sample.coreStep <;> rfl

theorem step_executing (ho : s.opState = .executing) (h : s.noReset) : step s = s.sample.runStep := by
  rw [step_noReset h, State.coreStep, State.sample_opState, ho]

theorem step_waiting (ho : s.opState = .waiting) (h : s.noReset) : step s = s.sample.waitStep := by
  rw [step_noReset h, State.coreStep, State.sample_opState, ho]

/-- The exception of the boundary is entered with the address of the instruction about to start. -/
theorem State.runStep_taken {x : Exception} (h : s.boundaryException = some x) :
    s.runStep = .next (s.takeException x s.pc) := by
  rw [State.runStep, h]

theorem State.runStep_none (h : s.boundaryException = none) : s.runStep = s.executeInstruction := by
  rw [State.runStep, h]

theorem State.waitStep_taken {x : Exception} (h : s.acceptedInterrupt s.pins.atBoundary = some x) :
    s.waitStep = .next (s.takeException x s.pc) := by
  rw [State.waitStep, h]

theorem State.waitStep_none (h : s.acceptedInterrupt s.pins.atBoundary = none) : s.waitStep = .next s := by
  rw [State.waitStep, h]

end

/-- P takes T as an instruction starts (60_exceptions.md R258); the PC match leaves PSR as it is. -/
theorem State.flag_beginInstruction (s : State) (k : Nat) :
    s.beginInstruction.flag k = if k = psrP then s.flag psrT else s.flag k := by
  rw [State.beginInstruction, State.notePcMatch_flag, State.flag_setFlag s _ k (by decide)]

/-- Settles O8: the checks of the boundary in their order, on the sampled inputs. -/
theorem boundaryPriority : Obligations.BoundaryPriority := by
  intro s ho hreset u dbg q int
  have hrun : step s = u.runStep := step_executing ho hreset
  have hpc : u.pc = s.pc := s.sample_pc
  have hdue : u.debugDue = true ↔ dbg := State.debugDue_iff
  have htake : ∀ {x}, u.boundaryException = some x → step s = .next (u.takeException x s.pc) := fun h => by
    rw [hrun, State.runStep_taken h, hpc]
  have hinterrupt : ∀ {x}, ¬ dbg → u.acceptedInterrupt q = some x → step s = .next (u.takeException x s.pc) :=
    fun hd h => htake (State.boundaryException_interrupt (mt hdue.1 hd) h)
  have hlast : ¬ dbg → q.nmi = false → ¬ int → q.ise = false →
      u.boundaryException = if u.flag psrP then some .trc else none := fun hd hn hi he =>
    State.boundaryException_last (mt hdue.1 hd) (State.acceptedInterrupt_none hn hi he)
  refine ⟨fun hd => htake (State.boundaryException_debug (hdue.2 hd)),
    fun hd hn => hinterrupt hd (State.acceptedInterrupt_nmi hn),
    fun hd hn hi => hinterrupt hd (State.acceptedInterrupt_int hn hi),
    fun hd hn hi he => hinterrupt hd (State.acceptedInterrupt_ise hn hi he),
    fun hd hn hi he hp => htake ?_, fun hd hn hi he hp => ⟨?_, u.flag_beginInstruction psrP⟩⟩
  · rw [hlast hd hn hi he, if_pos hp]
  · have hnone : u.boundaryException = none := by rw [hlast hd hn hi he, hp, if_neg Bool.false_ne_true]
    rw [hrun, State.runStep_none hnone]

/-- Settles O9: the accepted interrupt is taken from the wait state, and nothing else ends it. -/
theorem waitState : Obligations.WaitState := by
  intro s ho hreset u q int
  have hwait : step s = u.waitStep := step_waiting ho hreset
  have hpc : u.pc = s.pc := s.sample_pc
  have htake : ∀ {x}, u.acceptedInterrupt q = some x → step s = .next (u.takeException x s.pc) := fun h => by
    rw [hwait, State.waitStep_taken h, hpc]
  exact ⟨fun hn => htake (State.acceptedInterrupt_nmi hn), fun hn hi => htake (State.acceptedInterrupt_int hn hi),
    fun hn hi he => htake (State.acceptedInterrupt_ise hn hi he),
    fun hn hi he => hwait.trans (State.waitStep_none (State.acceptedInterrupt_none hn hi he))⟩

end Sys2Proof.Machine
end

section
/-! SUPPORT. How an instruction starts, and that the instruction a step runs is the one whose words stand at the PC
(20_memory.md R62, R66; 60_exceptions.md R258, R271, R282). -/

namespace Sys2Proof

/-! ### The bytes of the words of an instruction -/

/-- Each word stands low byte first, after the two bytes of every word before it (20_memory.md R62). -/
theorem getElem?_flatMap_bytesOfWord : ∀ {ws : List Word} {n : Nat} {w : Word}, ws[n]? = some w →
    (ws.flatMap bytesOfWord)[2 * n]? = some (w.extractLsb' 0 8) ∧
    (ws.flatMap bytesOfWord)[2 * n + 1]? = some (w.extractLsb' 8 8)
  | [], _, _, h => nomatch h
  | w :: ws, 0, _, h => by
    cases h
    exact ⟨rfl, rfl⟩
  | _ :: ws, n + 1, _, h => getElem?_flatMap_bytesOfWord (ws := ws) (n := n) h

end Sys2Proof

namespace Sys2Proof.Machine

/-! ### The fetch of an instruction -/

section
variable {s : State} {i : Instr} (h : s.holdsAtPc i)
include h

/-- Where the words of an instruction stand at the PC, each is fetched as it stands, and the fetch changes nothing. -/
theorem State.fetchWord_holds {n : Nat} {w : Word} (hw : (encode i)[n]? = some w) :
    s.fetchWord (s.pc + BitVec.ofNat 21 (2 * n)) = (w, s) := by
  obtain ⟨hlow, hhigh⟩ := getElem?_flatMap_bytesOfWord hw
  have hn : n < (encode i).length := (List.getElem?_eq_some_iff.1 hw).1
  have hlen := encode_length i
  have hnext : s.pc + BitVec.ofNat 21 (2 * n + 1) = s.pc + BitVec.ofNat 21 (2 * n) + 1 := by
    rw [BitVec.ofNat_add, BitVec.add_assoc]
    rfl
  obtain ⟨hstored, hmark, hbyte⟩ := h (2 * n) (by omega)
  obtain ⟨hstored', hmark', hbyte'⟩ := h (2 * n + 1) (by omega)
  rw [hnext] at hstored' hmark' hbyte'
  have hlo : w.extractLsb' 0 8 = s.byteAt _ := Option.some.inj (hlow.symm.trans hbyte)
  have hhi : w.extractLsb' 8 8 = s.byteAt _ := Option.some.inj (hhigh.symm.trans hbyte')
  refine State.fetchWord_eq ⟨hstored, hstored'⟩ hmark hmark' ?_
  rw [State.wordAt, ← hlo, ← hhi, toNat_low8, toNat_high8]
  omega

/-- The fetch reads the instruction whose words stand at the PC (20_memory.md R66). -/
theorem State.fetch_holds (hwf : i.WellFormed) : s.fetch = (.ok i, s) := by
  have hfirst : ∀ w, (encode i)[0]? = some w → s.fetchWord s.pc = (w, s) := fun w hw => by
    simpa using State.fetchWord_holds h hw
  have hsecond : ∀ w, (encode i)[1]? = some w → s.fetchWord (s.pc + 2#21) = (w, s) := fun w hw =>
    State.fetchWord_holds h (n := 1) hw
  have hread := encode_reads hwf
  generalize hws : encode i = ws at hread hfirst hsecond
  cases hread with
  | @one f _ hlen _ => simp [State.fetch, hfirst (wordOf f) rfl, hlen, decode_of_encode_one hwf hws]
  | @two f w2 _ hlen _ =>
    simp [State.fetch, hfirst (wordOf f) rfl, hlen, hsecond w2 rfl, decode_of_encode_two hwf hws]

/-- What stands at the PC rests on the PC, memory, the platform and the marks. -/
theorem State.holdsAtPc_of_eq {t : State} (hpc : t.pc = s.pc) (hmem : t.mem = s.mem) (hplat : t.platform = s.platform)
    (hstale : t.stale = s.stale) : t.holdsAtPc i := fun k hk => by
  rw [hpc, State.isStored_of_platform hplat, State.marked_of_stale hstale, State.byteAt_of_mem hmem]
  exact h k hk

end

/-- Settles O6: sampling and starting leave what stands at the PC, and its fetch is the instruction. -/
theorem stepRunsDecodedInstruction : Obligations.StepRunsDecodedInstruction := by
  intro s i hwf hquiet hholds
  have hstarted : s.sample.beginInstruction.holdsAtPc i :=
    State.holdsAtPc_of_eq hholds (by simp) (by simp) (by simp) (by simp)
  rw [step_quiet hquiet, State.executeInstruction, State.fetch_holds hstarted hwf]

/-! ### The start of an instruction -/

/-- The PC-match condition; CBE takes part where the platform says so (60_exceptions.md R282;
92_eei_decisions.md D17). -/
theorem State.pcMatches_iff (s : State) : s.pcMatches = true ↔
    s.dcr.getLsbD dcrDen = true ∧ s.dcr.getLsbD dcrPc = true ∧ s.pc = s.car ∧
      (s.platform.pcMatchUsesCbe = true → s.dcr.getLsbD 0 = true) := by
  have hcbe : (!s.platform.pcMatchUsesCbe || s.dcr.getLsbD 0) = true ↔
      (s.platform.pcMatchUsesCbe = true → s.dcr.getLsbD 0 = true) := by
    cases s.platform.pcMatchUsesCbe <;> simp
  rw [State.pcMatches, Bool.and_eq_true, Bool.and_eq_true, Bool.and_eq_true, beq_iff_eq, hcbe, and_assoc, and_assoc]

/-- The PC match does not look at PSR. -/
theorem State.beginInstruction_match {s : State} (h : s.pcMatches = true) :
    s.beginInstruction = (s.setFlag psrP (s.flag psrT)).recordMatch dsrBpc := if_pos h

theorem State.beginInstruction_noMatch {s : State} (h : ¬ s.pcMatches = true) :
    s.beginInstruction = s.setFlag psrP (s.flag psrT) := if_neg h

theorem specialsKept_beginInstruction (s : State) : SpecialsKept s s.beginInstruction :=
  ⟨s.beginInstruction_isp, s.beginInstruction_intbase, s.beginInstruction_cfg, s.beginInstruction_car,
    s.beginInstruction_platform, s.beginInstruction_pins, s.beginInstruction_pinsAhead⟩

theorem specialsOf_sample (s : State) : specialsOf s.sample = specialsOf s := by
  simp [specialsOf]

/-- Settles O7: P and the PC match, then what sampling leaves as it was. -/
theorem instructionStart : Obligations.InstructionStart := by
  intro s
  have hflags : FlagsBut s s.beginInstruction [psrP] := fun k hk => by
    rw [State.flag_beginInstruction, if_neg (List.ne_of_not_mem_cons hk)]
  refine ⟨⟨s.flag_beginInstruction psrP, hflags, fun r _ => s.beginInstruction_reg r, s.beginInstruction_pc,
    .of_mem s.beginInstruction_mem [], specialsKept_beginInstruction s, s.beginInstruction_opState,
    s.beginInstruction_stale, fun hit => ?_, fun miss => ?_⟩, fun r _ => s.sample_reg r, s.sample_pc,
    specialsOf_sample s, .of_mem s.sample_mem [], s.sample_opState, s.sample_dbgPending, s.sample_stale,
    s.sample_platform⟩
  · rw [State.beginInstruction_match (s.pcMatches_iff.2 hit)]
    exact State.recordMatch_spec (s.setFlag psrP (s.flag psrT)) (by decide)
  · rw [State.beginInstruction_noMatch (mt s.pcMatches_iff.1 miss)]
    exact ⟨rfl, rfl, rfl⟩

end Sys2Proof.Machine
end

section
/-! SUPPORT. The entry of an exception and the compare-address condition (60_exceptions.md R262 to R264, R281, R283):
what one access does to the debug unit, and that of an entry only step 5 touches EXF and EFB. -/

namespace Sys2Proof.Machine

/-- Settles O55, as every part of the entry is said of takeException. What it takes as choices: the vector 9 of TRC
(92_eei_decisions.md D8; notes/assumptions/11.md), that no byte changes where no RAM stands
(notes/assumptions/26.md), and the order and the moment of a match (D12, D15; notes/assumptions/12.md, 16.md). -/
theorem exceptionEntry : Obligations.ExceptionEntry := entered_takeException

/-! ### One access -/

theorem DebugKept.of_unit {s t : State} (h : t.debugUnit = s.debugUnit) : DebugKept s t :=
  ⟨congrArg DebugUnit.dcr h, congrArg DebugUnit.dsr h, congrArg DebugUnit.pending h⟩

theorem DebugOfAccess.kept_of_miss {s t : State} {a : Access} (h : DebugOfAccess s t [a])
    (miss : ¬ s.debugUnit.Hit s.car a) : DebugKept s t := .of_unit (h.2 miss)

theorem low_eq_ofNat (v : Word) : v.extractLsb' 0 8 = BitVec.ofNat 8 v.toNat :=
  BitVec.eq_of_toNat_eq ((toNat_low8 v).trans (BitVec.toNat_ofNat v.toNat 8).symm)

theorem high_eq_ofNat (v : Word) : v.extractLsb' 8 8 = BitVec.ofNat 8 (v.toNat / 256) := by
  have hv := v.isLt
  apply BitVec.eq_of_toNat_eq
  rw [toNat_high8, BitVec.toNat_ofNat]
  omega

/-- Settles O57: a byte access is the access of its own address, a word access that of its bytes in turn, a fetch is
none, and each reference of an entry is named. -/
theorem compareAddressMatch : Obligations.CompareAddressMatch := by
  intro s a hit Matched
  have hread := debugOfAccess_readByte s a
  have hwrite := debugOfAccess_writeByte s a
  refine ⟨hread.1, hread.kept_of_miss, fun v => ⟨(hwrite v).1, (hwrite v).kept_of_miss⟩, s.readWord_state a,
    fun v => ?_, ⟨s.fetch_dcr, s.fetch_dsr, s.fetch_dbgPending⟩, debugOfAccess_pushFrame s,
    debugOfAccess_acknowledge s, debugOfAccess_readHandler s⟩
  rw [← low_eq_ofNat, ← high_eq_ofNat, State.writeWord]

/-! ### EXF and EFB -/

/-- The bits of a tagged instruction are unchanged (60_exceptions.md R283). -/
structure DebugUnit.TagKept (u v : DebugUnit) : Prop where
  exf : v.dsr.getLsbD dsrExf = u.dsr.getLsbD dsrExf
  efb : v.dcr.getLsbD dcrEfb = u.dcr.getLsbD dcrEfb

/-- No access touches them: a match sets BRD or BWR and clears DEN (60_exceptions.md R281). -/
theorem DebugUnit.After.tagKept {car : Addr} {u v : DebugUnit} :
    ∀ {as : List Access}, u.After car v as → u.TagKept v
  | [], h => by
    obtain rfl : v = u := h
    exact ⟨rfl, rfl⟩
  | (k, b) :: _, h => by
    by_cases hit : u.Hit car (k, b)
    · obtain ⟨_, hdsr, hdcr⟩ := h.1 hit
      have hne : ¬ dsrExf = (if k = .read then dsrBrd else dsrBwr) := by cases k <;> decide
      exact ⟨by rw [hdsr, decide_eq_false hne, Bool.or_false],
        by rw [hdcr, decide_eq_true (by decide), Bool.and_true]⟩
    · exact (h.2 hit).tagKept

/-- Step 5 of the entry of DBG for a tagged instruction (60_exceptions.md R262, R283). -/
theorem DebugUnit.Settled.tagged {u v : DebugUnit} (h : u.Settled .dbg true v) (hefb : u.dcr.getLsbD dcrEfb = true) :
    v.dsr.getLsbD dsrExf = true ∧ v.dcr.getLsbD dcrEfb = false := by
  obtain ⟨_, hdsr, hdcr⟩ := h.2 rfl
  exact ⟨by rw [hdsr, decide_eq_true ⟨rfl, rfl, hefb⟩, Bool.or_true],
    by rw [hdcr, decide_eq_true ⟨rfl, rfl⟩, Bool.not_true, Bool.and_false]⟩

/-- Step 5 of any other entry; without EFB there is nothing to clear. -/
theorem DebugUnit.Settled.untagged {x : Exception} {tag : Bool} {u v : DebugUnit} (h : u.Settled x tag v)
    (hno : ¬ (x = .dbg ∧ u.dcr.getLsbD dcrEfb = true ∧ tag = true)) : u.TagKept v := by
  by_cases hx : x = .dbg
  · obtain ⟨_, hdsr, hdcr⟩ := h.2 hx
    refine ⟨?_, ?_⟩
    · rw [hdsr, decide_eq_false fun ⟨_, htag, hefb⟩ => hno ⟨hx, hefb, htag⟩, Bool.or_false]
    · rw [hdcr]
      cases hefb : u.dcr.getLsbD dcrEfb with
      | false => rfl
      | true => rw [decide_eq_false fun ⟨_, htag⟩ => hno ⟨hx, hefb, htag⟩]; rfl
  · obtain rfl := h.1 hx
    exact ⟨rfl, rfl⟩

/-- Settles O58: the accesses of the entry keep EXF and EFB, so that step 5 decides. -/
theorem taggedInstruction : Obligations.TaggedInstruction := by
  intro s x spc t tagged
  obtain ⟨u, v, hframe, hsettled, hreads⟩ := debugAfterEntry_takeException s x spc
  obtain ⟨hexf, hefb⟩ := hframe.tagKept
  obtain ⟨hexf', hefb'⟩ := hreads.tagKept
  have hafter : t.dsr.getLsbD dsrExf = v.dsr.getLsbD dsrExf ∧ t.dcr.getLsbD dcrEfb = v.dcr.getLsbD dcrEfb :=
    ⟨hexf', hefb'⟩
  rw [hafter.1, hafter.2]
  refine ⟨fun ⟨hx, hset, htag⟩ => ?_, fun hno => ?_⟩
  · rw [hx, htag] at hsettled
    exact hsettled.tagged (hefb.trans hset)
  · have hkept := hsettled.untagged fun ⟨hx, hset, htag⟩ => hno ⟨hx, hefb.symm.trans hset, htag⟩
    exact ⟨hkept.exf.trans hexf, hkept.efb.trans hefb⟩

end Sys2Proof.Machine
end

section
/-! SUPPORT. Reset (70_reset_and_hazards.md R300 to R302; 93_implementation_defined.md U9, U10): what the state holds
after one, which step takes it, how the Reset state is left, and what a reset inside an instruction leaves open. -/

namespace Sys2Proof.Machine

/-! ### The state after a reset -/

@[simp] theorem State.resetInto_reg_zero (s : State) (a b : Word) : (s.resetInto a b).reg 0 = a := rfl

@[simp] theorem State.resetInto_reg_one (s : State) (a b : Word) : (s.resetInto a b).reg 1 = b := rfl

/-- PSR[11:0] after a reset, the bits above it free. -/
theorem toNat_maskedPsr_mod (w : Word) : ((w &&& 0xF000#16) ||| 0x0200#16).toNat % 4096 = 0x200 := by
  have hlow : ((w &&& 0xF000#16) ||| 0x0200#16).setWidth 12 = 0x200#12 := by simp
  rw [← BitVec.toNat_setWidth 12, hlow]
  rfl

/-- DSR[3:0] after a reset, the bits above it free. -/
theorem toNat_maskedDsr_mod (w : Word) : (w &&& 0xFFF0#16).toNat % 16 = 0 := by
  have hlow : (w &&& 0xFFF0#16).setWidth 4 = 0#4 := by simp
  rw [← BitVec.toNat_setWidth 4, hlow]
  rfl

/-- The shapes of ISP, INTBASE and PSR are those of the invariant, and rest on no memory. -/
theorem afterReset_resetInto {s t : State} (hplat : t.platform = s.platform) (a b : Word) :
    AfterReset s (t.resetInto a b) := by
  have hinv : (State.resetInto { t with mem := [] } a b).Inv := inv_resetInto rfl a b
  exact
    { pc := rfl
      psr := toNat_maskedPsr_mod _
      psrConstants := hinv.psrShape
      ed := by simp [State.resetInto, State.cfgEd]
      dcr := by
        rw [State.resetInto, BitVec.and_assoc]
        exact BitVec.and_zero
      dsr := toNat_maskedDsr_mod _
      pending := rfl
      isp := hinv.ispShape
      intbase := hinv.intbaseEven
      opState := rfl
      stale := rfl
      platform := hplat }

/-- The reset event gives R0 and R1 the PC and PSR, and leaves memory (70_reset_and_hazards.md R300). -/
theorem resetEvent_spec {s w : State} (hpc : w.pc = s.pc) (hpsr : w.psr = s.psr) (hmem : w.mem = s.mem)
    (hplat : w.platform = s.platform) :
    (w.resetEvent.reg 0).toNat = s.pc.toNat / 2 % 2 ^ 16 ∧
    (w.resetEvent.reg 1).toNat = s.pc.toNat / 2 ^ 17 * 4096 + s.psr.toNat % 4096 ∧
    MemoryBut s w.resetEvent [] ∧ AfterReset s w.resetEvent := by
  rw [State.resetEvent, State.resetInto_reg_zero, State.resetInto_reg_one, toNat_pcLow, toNat_frameHigh, hpc, hpsr]
  exact ⟨rfl, rfl, .of_mem hmem [], afterReset_resetInto hplat _ _⟩

/-! ### The step a reset arrives at -/

section
variable {s : State}

theorem step_reset (h : s.sample.pins.reset = true) : step s = .next s.sample.resetStep := by
  rw [step, State.cycle, State.sampledStep, if_pos h]

theorem State.resetStep_held (h : s.opState = .reset) : s.resetStep = s := if_pos h

theorem State.resetStep_event (h : s.opState ≠ .reset) : s.resetStep = s.resetEvent := if_neg h

variable (hreset : s.sample.pins.reset = false) (hinside : s.sample.pins.resetInside = true)
include hreset hinside

/-- A reset inside a step replaces what the step of the core answers. -/
theorem step_resetInside {c : State} (h : s.sample.coreStep = .next c) :
    step s = .next (s.sample.resetDuring c) := by
  rw [step, State.cycle, State.sampledStep, hreset, h, hinside]
  rfl

end

/-! ### The Reset state is left for Executing Instructions -/

section
variable (s : State) (o : OpState)

theorem State.sample_setOpState : (s.setOpState o).sample = s.sample.setOpState o := by
  unfold State.sample
  cases h : s.pinsAhead <;> simp only [State.setOpState, h]

theorem State.beginInstruction_setOpState :
    (s.setOpState o).beginInstruction = s.beginInstruction.setOpState o := by
  by_cases h : s.pcMatches = true
  · rw [State.beginInstruction_match h, State.beginInstruction_match (s := s.setOpState o) h]
    rfl
  · rw [State.beginInstruction_noMatch h, State.beginInstruction_noMatch (s := s.setOpState o) h]
    rfl

theorem State.loadByte_setOpState (a : Addr) :
    (s.setOpState o).loadByte a = ((s.loadByte a).1, (s.loadByte a).2.setOpState o) := by
  unfold State.loadByte
  rw [State.setOpState_kindAt]
  cases s.kindAt a <;> rfl

theorem State.fetchByte_setOpState (old : Bool) (a : Addr) :
    (s.setOpState o).fetchByte old a = ((s.fetchByte old a).1, (s.fetchByte old a).2.setOpState o) := by
  unfold State.fetchByte
  rw [State.setOpState_stale, State.loadByte_setOpState]
  cases (if old then markOf s.stale a.toNat else none) <;> rfl

theorem State.fetchChoice_setOpState (a : Addr) :
    (s.setOpState o).fetchChoice a = ((s.fetchChoice a).1, (s.fetchChoice a).2.setOpState o) := by
  have hmarked : ∀ b, (s.setOpState o).marked b = s.marked b := fun _ => rfl
  unfold State.fetchChoice
  rw [hmarked, hmarked]
  cases s.marked a || s.marked (a + 1) <;> rfl

theorem State.fetchWord_setOpState (a : Addr) :
    (s.setOpState o).fetchWord a = ((s.fetchWord a).1, (s.fetchWord a).2.setOpState o) := by
  simp only [State.fetchWord, State.fetchChoice_setOpState, State.fetchByte_setOpState]

/-- A fetch does not look at the operating state. -/
theorem State.fetch_setOpState : (s.setOpState o).fetch = (s.fetch.1, s.fetch.2.setOpState o) := by
  simp only [State.fetch, State.setOpState_pc, State.fetchWord_setOpState]
  split <;> rfl

theorem State.flagsAtStake_setOpState : (s.setOpState o).flagsAtStake = s.flagsAtStake := by
  unfold State.flagsAtStake
  rw [State.beginInstruction_setOpState, State.fetch_setOpState]
  rfl

/-- A reset inside a step acts on the Reset state as on Executing Instructions: both start an instruction. -/
theorem State.resetDuring_setOpState (h : s.opState = .reset) (t : State) :
    (s.setOpState .executing).resetDuring t = s.resetDuring t := by
  have hstarts : (s.setOpState .executing).startsInstruction = s.startsInstruction := by
    rw [State.startsInstruction, State.startsInstruction, h]
    rfl
  rw [State.resetDuring, State.resetDuring, hstarts, State.flagsAtStake_setOpState,
    State.beginInstruction_setOpState]
  rfl

theorem State.coreStep_released (h : s.opState = .reset) :
    s.coreStep = (s.setOpState .executing).coreStep := by
  rw [State.coreStep, State.coreStep, h, State.setOpState_opState]

end

theorem step_released {s : State} (h : s.opState = .reset) (hreset : s.sample.pins.reset = false) :
    step s = step (s.setOpState .executing) := by
  have ho : s.sample.opState = .reset := s.sample_opState.trans h
  rw [step, step, State.cycle, State.cycle, State.sample_setOpState, State.sampledStep, State.sampledStep,
    State.setOpState_pins, hreset, State.coreStep_released _ ho]
  simp only [State.resetDuring_setOpState _ ho]
  rfl

/-- Settles O11: the event, the held input and the released one each have their step. -/
theorem resetEvent : Obligations.ResetEvent := by
  refine ⟨fun s hreset => ⟨fun ho => ⟨s.sample.resetEvent, ?_, ?_⟩, fun ho => ?_⟩, fun s => step_released⟩
  · rw [step_reset hreset, State.resetStep_event (s.sample_opState.trans_ne ho)]
  · exact resetEvent_spec s.sample_pc s.sample_psr s.sample_mem s.sample_platform
  · rw [step_reset hreset, State.resetStep_held (s.sample_opState.trans ho)]

/-! ### A reset inside an instruction -/

/-- A scramble changes listed bytes only. -/
theorem State.memRead_scrambleBytes : ∀ (as : List Nat) (s : State) {x : Nat}, x ∉ as →
    memRead (State.scrambleBytes as s).mem x = memRead s.mem x
  | [], _, _, _ => rfl
  | a :: as, s, x, hx => by
    obtain ⟨hne, hx⟩ := not_or.1 (mt List.mem_cons.2 hx)
    rw [State.scrambleBytes, State.memRead_scrambleBytes as _ hx]
    exact memRead_memWrite_ne s.mem a _ hne

/-- PSR[11:0] is the low part of the word that holds PC[20:17] above it (70_reset_and_hazards.md R300). -/
theorem getLsbD_frameHigh (a : Addr) (psr : Word) {k : Nat} (hk : k < 12) :
    (frameHigh a psr).getLsbD k = psr.getLsbD k := by
  rw [frameHigh, BitVec.getLsbD_append, if_pos hk, BitVec.getLsbD_extractLsb']
  simp [hk]

/-- The bits 3, 4 and 8 are no destination of any instruction (10_state.md R28). -/
theorem getLsbD_flagMask_kept {ks : List Nat} {k : Nat} (h : k ∉ ks ∨ k ∈ [3, 4, 8]) :
    (flagMask ks).getLsbD k = false := by
  rw [getLsbD_flagMask]
  rcases h with h | h
  · rw [decide_eq_false h, Bool.false_and]
  · have hconst : psrDefined.getLsbD k = false := by revert k; decide
    rw [hconst, Bool.and_false]

/-- The state t a reset leaves of a step from s whose instruction it terminates: the PC of the instruction and PSR
as it started are saved but for the flags ks, and memory is kept but for the bytes as. -/
def ResetTerminated (s : State) (ks : List Nat) (as : List Addr) (t : State) : Prop :=
  (t.reg 0).toNat = s.pc.toNat / 2 % 2 ^ 16 ∧ (t.reg 1).toNat / 4096 = s.pc.toNat / 2 ^ 17 ∧
  (∀ k < 12, k ∉ ks ∨ k ∈ [3, 4, 8] → (t.reg 1).getLsbD k = if k = psrP then s.flag psrT else s.flag k) ∧
  MemoryBut s t as ∧ AfterReset s t

/-- Where an instruction stores within as, a reset inside it frees no other byte and no flag outside ks. -/
theorem resetTerminated_resetInside {s c : State} {as : List Addr}
    (h : StoresWithin as s.sample.beginInstruction.fetch.2 c) (ks : List Nat) :
    ResetTerminated s ks as (s.sample.beginInstruction.resetInside c ks) := by
  have hfree : ∀ a ∉ as, a.toNat ∉ c.written := fun a ha hw => by
    obtain hold | ⟨b, hb, hab, _⟩ := h.record.recorded _ hw
    · simp [State.sample_written] at hold
    · exact ha (BitVec.eq_of_toNat_eq hab ▸ hb)
  have hplat : c.platform = s.platform := h.record.platform.trans (by simp)
  refine ⟨?_, ?_, fun k hk hkept => ?_, fun a ha => ?_, afterReset_resetInto (by simpa using hplat) _ _⟩
  · rw [State.resetInside, State.resetInto_reg_zero, toNat_pcLow, State.beginInstruction_pc, State.sample_pc]
  · rw [State.resetInside, State.resetInto_reg_one, toNat_frameHigh, State.beginInstruction_pc, State.sample_pc]
    omega
  · rw [State.resetInside, State.resetInto_reg_one, getLsbD_frameHigh _ _ hk, getLsbD_maskedWrite,
      getLsbD_flagMask_kept hkept, if_neg Bool.false_ne_true]
    exact (s.sample.flag_beginInstruction k).trans (by simp)
  · have hstart : s.sample.beginInstruction.fetch.2.byteAt a = s.byteAt a := State.byteAt_of_mem (by simp) a
    calc (s.sample.beginInstruction.resetInside c ks).byteAt a
      _ = c.byteAt a := State.memRead_scrambleBytes c.written c (hfree a ha)
      _ = s.byteAt a := (h.memory a ha).trans hstart

theorem storedBytes_fetch (i : Instr) (s : State) : storedBytes i s.fetch.2 = storedBytes i s := by
  rw [State.fetch_state, storedBytes_setFresh]

theorem frameBytes_fetch (s : State) : frameBytes s.fetch.2 = frameBytes s := by
  rw [frameBytes, frameBytes, State.fetch_isp]

section
variable {s : State}

theorem State.flagsAtStake_ok {i : Instr} (h : s.beginInstruction.fetch.1 = .ok i) : s.flagsAtStake =
    if isMultiply i && (s.acceptedInterrupt s.pins.duringMul).isSome then [psrI, psrP, psrT] else flagsWritten i := by
  rw [State.flagsAtStake, h]

theorem State.flagsAtStake_error {e : Undefined} (h : s.beginInstruction.fetch.1 = .error e) :
    s.flagsAtStake = [psrP, psrT] := by
  rw [State.flagsAtStake, h]

/-- Acceptance looks at E and I only, and the start of an instruction writes P only (60_exceptions.md R255, R258). -/
theorem State.acceptedInterrupt_beginInstruction (q : Requests) :
    s.beginInstruction.acceptedInterrupt q = s.acceptedInterrupt q := by
  simp [State.acceptedInterrupt, State.flag_beginInstruction, psrE, psrI, psrP]

theorem State.resetDuring_started (ho : s.opState = .executing) (hnone : s.boundaryException = none) (t : State) :
    s.resetDuring t = s.beginInstruction.resetInside t s.flagsAtStake :=
  if_pos ((s.startsInstruction_iff).2 ⟨by simp [ho], hnone⟩)

theorem State.resetDuring_outside (h : ¬ (s.opState ≠ .waiting ∧ s.boundaryException = none)) (t : State) :
    s.resetDuring t = t.resetEvent :=
  if_neg (mt (s.startsInstruction_iff).1 h)

theorem State.executeInstruction_ok {i : Instr} (h : s.beginInstruction.fetch.1 = .ok i) :
    s.executeInstruction = exec i s.beginInstruction.fetch.2 := by
  rw [State.executeInstruction, h]

theorem State.executeInstruction_error {e : Undefined} (h : s.beginInstruction.fetch.1 = .error e) :
    s.executeInstruction = .next (s.beginInstruction.fetch.2.takeException .und s.pc) := by
  rw [State.executeInstruction, h]

end

section
variable {s : State} (hreset : s.sample.pins.reset = false) (hinside : s.sample.pins.resetInside = true)
include hreset hinside

/-- A step that takes x at its boundary, or waits, has no instruction to terminate (notes/assumptions/22.md). -/
theorem step_resetOutside {c : State}
    (hout : ¬ (s.sample.opState ≠ .waiting ∧ s.sample.boundaryException = none))
    (hcore : s.sample.coreStep = .next c) : step s = .next c.resetEvent := by
  rw [step_resetInside hreset hinside hcore, State.resetDuring_outside hout]

section
variable (ho : s.opState = .executing) (hnone : s.sample.boundaryException = none)
include ho hnone

/-- The instruction a step starts, terminated before it completes as c. -/
theorem step_terminated {c : State} {as : List Addr} (hrun : s.sample.executeInstruction = .next c)
    (hstores : StoresWithin as s.sample.beginInstruction.fetch.2 c) :
    Completes (step s) (ResetTerminated s s.sample.flagsAtStake as) := by
  have hstate : s.sample.opState = .executing := s.sample_opState.trans ho
  have hcore : s.sample.coreStep = .next c := by
    rw [State.coreStep, hstate]
    exact (State.runStep_none hnone).trans hrun
  refine ⟨_, step_resetInside hreset hinside hcore, ?_⟩
  rw [State.resetDuring_started hstate hnone]
  exact resetTerminated_resetInside hstores _

/-- Whatever instruction the fetch delivers, its own flags and bytes are what a reset inside it leaves open. -/
theorem step_terminated_instruction {i : Instr} {c : State} (hfetch : s.sample.beginInstruction.fetch.1 = .ok i)
    (hexec : exec i s.sample.beginInstruction.fetch.2 = .next c) :
    Completes (step s) (ResetTerminated s
      (if isMultiply i && (s.sample.acceptedInterrupt s.sample.pins.duringMul).isSome then [psrI, psrP, psrT]
        else flagsWritten i)
      (storedBytes i s.sample.beginInstruction)) := by
  have hstores := exec_storesWithin hexec
  rw [storedBytes_fetch] at hstores
  rw [← State.flagsAtStake_ok hfetch]
  exact step_terminated hreset hinside ho hnone ((State.executeInstruction_ok hfetch).trans hexec) hstores

/-- The trap of a word that is no instruction writes P, T and its frame (60_exceptions.md R262, R265). -/
theorem step_terminated_undefined {e : Undefined} (hfetch : s.sample.beginInstruction.fetch.1 = .error e) :
    Completes (step s) (ResetTerminated s [psrP, psrT] (frameBytes s.sample.beginInstruction)) := by
  have hstores := storesWithin_takeException s.sample.beginInstruction.fetch.2 .und s.sample.pc
  rw [frameBytes_fetch] at hstores
  rw [← State.flagsAtStake_error hfetch]
  exact step_terminated hreset hinside ho hnone (State.executeInstruction_error hfetch) hstores

end

end

/-- Settles O12: the instruction a reset terminates, by what the fetch delivers; then the steps that start none. -/
theorem resetInsideStep : Obligations.ResetInsideStep := by
  intro s hreset hinside u v lost Terminated
  have hlost : ∀ i, lost i = if isMultiply i && (u.acceptedInterrupt u.pins.duringMul).isSome then
      [psrI, psrP, psrT] else flagsWritten i := fun i => by
    simp only [lost, v, State.acceptedInterrupt_beginInstruction, State.beginInstruction_pins]
  have hpc : u.pc = s.pc := s.sample_pc
  have hstate : ∀ {o}, s.opState = o → u.opState = o := s.sample_opState.trans
  have houtside : ∀ {c}, ¬ (u.opState ≠ .waiting ∧ u.boundaryException = none) → u.coreStep = .next c →
      step s = .next c.resetEvent := step_resetOutside hreset hinside
  refine ⟨fun ho hnone => ?_, fun ho hnone => ?_, fun x => ?_, fun w => ⟨_, rfl, resetEvent_spec rfl rfl rfl rfl⟩⟩
  · have hdelivered : ∀ (i : Instr) (c : State), v.fetch.1 = .ok i → exec i v.fetch.2 = .next c →
        Completes (step s) (Terminated (lost i) (storedBytes i v)) := fun i c hfetch hexec => by
      rw [hlost]
      exact step_terminated_instruction hreset hinside ho hnone hfetch hexec
    refine ⟨fun i c hwf hholds hexec => ?_, hdelivered,
      fun e => step_terminated_undefined hreset hinside ho hnone⟩
    have hstarted : v.holdsAtPc i :=
      State.holdsAtPc_of_eq hholds (by simp [v, u]) (by simp [v, u]) (by simp [v, u]) (by simp [v, u])
    have hfetch : v.fetch = (.ok i, v) := State.fetch_holds hstarted hwf
    exact hdelivered i c (congrArg Prod.fst hfetch) (by rw [hfetch]; exact hexec)
  · refine houtside (fun h => h.1 (hstate ho)) ?_
    rw [State.coreStep, hstate ho]
    exact State.waitStep_none hnone
  · rw [← hpc]
    rintro (⟨ho, hdue⟩ | ⟨ho, hdue⟩)
    · refine houtside (fun h => by simp [hdue] at h) ?_
      rw [State.coreStep, hstate ho]
      exact State.runStep_taken hdue
    · refine houtside (fun h => h.1 (hstate ho)) ?_
      rw [State.coreStep, hstate ho]
      exact State.waitStep_taken hdue

end Sys2Proof.Machine
end
